-- ==== Sys2Proof/Word.lean ====
section
/-! DEFINITION. The words of the block: the bytes the port carries and the fields made of them (0.6, R183). -/

namespace Sys2Proof

/-- One byte on the bus or in the store. -/
abbrev Byte := BitVec 8

/-- A 2-byte field. -/
abbrev Half := BitVec 16

/-- A 4-byte field. -/
abbrev Wide := BitVec 32

/-- A channel, 0 to 11; a load record takes the number of its channel (0.6). -/
abbrev Channel := Fin 12

/-- A hold line, HOLD0 to HOLD3. -/
abbrev HoldLine := Fin 4

end Sys2Proof
end

