-- ==== Sys2Proof/Syntax.lean ====
section
/-! DEFINITION. The commands of the block: one constructor per row of spec/opcode_table.json, and the types of their
operands. The table gives no operands; each constructor's docstring says where its operands come from. -/

namespace Sys2Proof

/-- The five record spaces (R168). -/
inductive Space where
  | load | profile | status | command | lists
  deriving DecidableEq, Repr

/-- Records of a space (R168). -/
def Space.records : Space → Nat
  | .load => 12
  | .profile => 3
  | .status => 1
  | .command => 7
  | .lists => 2

/-- Bytes of a record of a space (R168). -/
def Space.bytes : Space → Nat
  | .load => 28
  | .profile => 32
  | .status => 40
  | .command => 4
  | .lists => 13

/-- The levels that a line tick samples (R7, R76, R129, R145, R149). Each is the electrical level of the pin, true or 1
for high; which level is active is section 0.5's, and is read in Machine/Lines.lean. -/
structure LineLevels where
  /-- SW0 to SW11, bit n for SWn. -/
  sw : BitVec 12
  /-- HOLD0 to HOLD3. -/
  hold : BitVec 4
  forceOff : Bool
  setup : Bool
  /-- DIAG0 to DIAG11. -/
  diag : BitVec 12
  deriving DecidableEq, Repr

/-- Every line released: the active-low lines high, the hold lines low (0.5). -/
def LineLevels.released : LineLevels where
  sw := BitVec.allOnes 12
  hold := 0
  forceOff := true
  setup := true
  diag := BitVec.allOnes 12

/-- The fields of the meter profile as the port and the store hold them (R184 record 0, R188). -/
structure MeterWords where
  capacity : Half
  pulseWeight : Half
  efficiency : Half
  resistance : Half
  quietTime : Half
  filterShift : Byte
  restTime : Byte
  restCurrent : Half
  restTolerance : Half
  fullVoltage : Half
  tailCurrent : Half
  fullTime : Byte
  deriving DecidableEq, Repr

/-- The fields of the budget profile as the port and the store hold them (R184 record 1, R188). -/
structure BudgetWords where
  vOk : Half
  vCut : Half
  fFull : Half
  fFloor : Half
  aMax : Half
  margin : Half
  spacing : Byte
  cutHoldOff : Byte
  debounce : Byte
  deriving DecidableEq, Repr

/-- One point of the rest table (R184 record 2). -/
structure PointWords where
  voltage : Half
  fraction : Half
  deriving DecidableEq, Repr

/-- The 18 bytes that the store holds for one channel (R188). -/
structure ChannelWords where
  enrolled : Byte
  cls : Byte
  declaredDraw : Half
  learnedDraw : Half
  settleTime : Byte
  switchMode : Byte
  holdLine : Byte
  minOn : Half
  minOff : Half
  holdLimit : Half
  retryLimit : Byte
  retryBase : Byte
  restartPolicy : Byte
  deriving DecidableEq, Repr

/-- A stored image: 68 bytes of profiles, 216 of channels, and the checksum (R188). R188 says that the order of the bytes
carries no behaviour, so the image is held by fields (log 24). -/
structure StoreWords where
  meter : MeterWords
  budget : BudgetWords
  rest : Vector PointWords 8
  channels : Vector ChannelWords 12
  checksum : Half
  deriving DecidableEq, Repr

/-- How far a save had come when the power was lost (R191). -/
inductive SaveCut where
  /-- Before the checksum was programmed: the store holds whatever had been erased or programmed. -/
  | beforeChecksum (left : StoreWords)
  /-- During the read-back: the whole image with its checksum stands in the store. -/
  | duringReadBack
  deriving DecidableEq, Repr

/-- The commands. -/
inductive Instr where
  /-- POWER_ON (R193). The levels of the straps ADS1 and ADS0 (R167). -/
  | powerOn (ads1 ads0 : Bool)
  /-- STARTUP_STAGE_2 (R194). -/
  | startupStage2
  /-- STARTUP_STAGE_3 (R195). -/
  | startupStage3
  /-- PULSE (R30). The level of DIR at the capture tick of the edge (R29). -/
  | pulse (dirHigh : Bool)
  /-- SAMPLE_TICK (R32). The code of the VBAT converter (R37). -/
  | sampleTick (code : BitVec 12)
  /-- QUIET_EXPIRY (R33). -/
  | quietExpiry
  /-- FULL_SYNC (R51). -/
  | fullSync
  /-- REST_RE_ANCHOR (R54). -/
  | restReAnchor
  /-- EVALUATION (R107). -/
  | evaluation
  /-- DWELL_INCREMENT (R22). -/
  | dwellIncrement
  /-- SETTLE_END (R99): a second tick's settle countdown of one record. -/
  | settleEnd (n : Channel)
  /-- MIN_OFF_EXPIRY (R103): a second tick's min-off check. -/
  | minOffExpiry
  /-- HOLD_LIMIT_EXPIRY (R134, R132): a second tick's hold-limit countdown of one record. -/
  | holdLimitExpiry (n : Channel)
  /-- MIN_ON_REACHED (R135): a second tick's min-on check of one record. -/
  | minOnReached (n : Channel)
  /-- RETRY_EXPIRY (R152): a second tick's retry countdown of one record. -/
  | retryExpiry (n : Channel)
  /-- CLEAN_RUN (R153): a second tick's clean-run count of one record. -/
  | cleanRun (n : Channel)
  /-- STABLE_LEVEL_CHANGE (R77, R76): the debounced level of SWn changes. -/
  | stableLevelChange (n : Channel)
  /-- SETUP_LEVEL_CHANGE (R7). -/
  | setupLevelChange
  /-- HOLD_ASSERTION (R130, R129). -/
  | holdAssertion (h : HoldLine)
  /-- HOLD_RELEASE (R133, R129). -/
  | holdRelease (h : HoldLine)
  /-- FORCE_OFF_ASSERTION (R146, R145). -/
  | forceOffAssertion
  /-- FORCE_OFF_RELEASE (R147, R145). -/
  | forceOffRelease
  /-- TRIP (R150). -/
  | trip (n : Channel)
  /-- POINTER_SET (R169): the address byte of a write transaction, the space byte and the index byte. -/
  | pointerSet (address : BitVec 7) (space index : Byte)
  /-- READ_TRANSACTION (R174, R170): the address byte of a read transaction and the number of bytes the part sends. -/
  | readTransaction (address : BitVec 7) (count : Nat)
  /-- STATUS_SNAPSHOT (R173): the byte at offset 0 of STATUS is read. -/
  | statusSnapshot
  /-- PARTIAL_WRITE (R172): a write transaction ends with these bytes of the record staged. -/
  | partialWrite (space : Space) (index : Nat) (data : List Byte)
  /-- LOAD_COMMIT (R12): the whole record of channel n (R183). -/
  | loadCommit (n : Channel) (data : Vector Byte 28)
  /-- METER_PROFILE_COMMIT (R41): the whole record (R184). -/
  | meterProfileCommit (data : Vector Byte 32)
  /-- BUDGET_PROFILE_COMMIT (R70): the whole record (R184). -/
  | budgetProfileCommit (data : Vector Byte 32)
  /-- REST_TABLE_COMMIT (R60): the whole record (R184). -/
  | restTableCommit (data : Vector Byte 32)
  /-- STATUS_COMMIT (R179): the whole record (R185). -/
  | statusCommit (data : Vector Byte 40)
  /-- LISTS_WRITE (R171): the data bytes of a write transaction to LISTS, from offset 0 of record index to its end. -/
  | listsWrite (index : Fin 2) (data : List Byte)
  /-- CLEAR_FAULT (R154): the 4 argument bytes (R175, R186). -/
  | clearFault (argument : Vector Byte 4)
  /-- FORGET_DRAW (R166). -/
  | forgetDraw (argument : Vector Byte 4)
  /-- SET_RESERVE (R56). -/
  | setReserve (argument : Vector Byte 4)
  /-- CLEAR_ANCHOR (R57); the argument is ignored. -/
  | clearAnchor (argument : Vector Byte 4)
  /-- SAVE_PROFILE (R190); the argument is ignored. -/
  | saveProfile (argument : Vector Byte 4)
  /-- RESTART (R192); the argument is ignored. -/
  | restart (argument : Vector Byte 4)
  /-- SET_CHANGE_MASK (R174): the set of items. -/
  | setChangeMask (argument : Vector Byte 4)
  /-- SAVE_COMPLETION (R191): the image that the nonvolatile memory then holds, as the read-back finds it. -/
  | saveCompletion (programmed : StoreWords)
  /-- CAPTURE_TICK (R27): the level of CQ. -/
  | captureTick (cqHigh : Bool)
  /-- LINE_TICK (R76): the levels of the lines. -/
  | lineTick (lines : LineLevels)
  /-- LOSS_OF_POWER (R191): how far a save in flight had come; of no matter while no save is in flight. -/
  | lossOfPower (cut : SaveCut)
  deriving DecidableEq, Repr

end Sys2Proof
end

