-- ==== Sys2Proof/Config.lean ====
section
/-! DEFINITION. What the spec leaves open: the free values. A free value has no body, so nothing can be proved of it. -/

namespace Sys2Proof

/-- FREE VALUE (log 21). R34 divides by D, and R28 and R30 say that D is at least 2. A sequence of commands that keeps
no sample tick for a whole wrap of the capture counter would form D = 0; the magnitude of the estimate is then this
value of the pulse weight, before the clamp of R34. -/
opaque Config.unstatedEstimate : Nat → Nat

end Sys2Proof
end

