-- ==== Sys2Proof/Machine/State.lean ====
section
/-! DEFINITION. The state of the block, whole and as plain data, and the state at power-on. INVENTORY.md lists every
field with its rule. Quantities the manual counts in numbers (mA, mV, mAs, s, ticks) are naturals or integers; words that
software reads or writes whole (flags, enables, the change mask) are bit vectors (log 31). -/

namespace Sys2Proof.Machine

/-- Record states (R17). -/
inductive LoadState where
  | vacant | idle | standby | starting | running | deferred | tripped | locked
  deriving DecidableEq, Repr

/-- Switch modes (R4, R77). -/
inductive SwitchMode where
  | none | toggle | follow | onOnly
  deriving DecidableEq, Repr

/-- Restart policies (R4, R25). -/
inductive RestartPolicy where
  | startOff | startOn
  deriving DecidableEq, Repr

/-- Reasons of a STANDBY record (R19, R123). -/
inductive StandbyReason where
  | forced | minOff | heldBack | budget | queued
  deriving DecidableEq, Repr

/-- Causes of a DEFERRED record (R19). -/
inductive DeferCause where
  | budget | requestOff
  deriving DecidableEq, Repr

/-- The reason or cause field (R19). -/
inductive Reason where
  | none
  | standby (r : StandbyReason)
  | deferred (c : DeferCause)
  deriving DecidableEq, Repr

/-- Direction of the battery current (R29). -/
inductive Direction where
  | discharge | charge
  deriving DecidableEq, Repr

/-- What an open learn window holds (R158), and the output lines as they stood when it opened (R164, log 23). -/
structure Opening where
  before : Int
  valid : Bool
  dir : Direction
  lines : Vector Bool 12
  deriving DecidableEq, Repr

/-- A learn window in one of its three phases (R158). -/
inductive Window where
  | closed
  | settling (o : Opening)
  | closing (o : Opening)
  deriving DecidableEq, Repr

/-- A load record: the fields of R4 with their defaults, and the timers, counts, stamps and learn window that R4, R90,
R132, R143 and R158 give each record or channel. -/
structure Load where
  state : LoadState := .vacant
  cls : Nat := 7
  request : Bool := false
  declaredDraw : Nat := 100
  learnedDraw : Option Nat := none
  settleTime : Nat := 2
  switchMode : SwitchMode := .none
  holdLine : Option HoldLine := none
  learnEnable : Bool := true
  minOn : Nat := 0
  minOff : Nat := 0
  holdLimit : Nat := 600
  retryLimit : Nat := 3
  retryBase : Nat := 5
  restartPolicy : RestartPolicy := .startOff
  retriesUsed : Nat := 0
  reason : Reason := .none
  shed : Bool := false
  waitHold : Bool := false
  waitMinOn : Bool := false
  dwell : Nat := 0
  /-- Settle timer of a STARTING record (R98); 0 while none runs. -/
  settleTimer : Nat := 0
  /-- Hold-limit timer, which exists while waitHold is set (R132); 0 otherwise. -/
  holdTimer : Nat := 0
  retryTimer : Option Nat := none
  cleanRun : Nat := 0
  requestStamp : Option Nat := none
  startStamp : Option Nat := none
  window : Window := .closed
  blanking : Nat := 0
  diagRun : Nat := 0
  deriving DecidableEq, Repr

/-- The set that Battery Sense publishes (R39): I_s with its validity, I_f, V_s and V_comp. -/
structure Published where
  current : Int
  valid : Bool
  filtered : Int
  sensed : Nat
  comp : Nat
  deriving DecidableEq, Repr

/-- Battery Sense (R26). edge is the model's own: a rising edge found by the capture tick just taken (R28, log 6). -/
structure Sense where
  counter : Nat
  cq : Bool
  edge : Bool
  stamp : Option Nat
  period : Option Nat
  dir : Direction
  pub : Published
  deriving DecidableEq, Repr

/-- The Reserve Estimator (R45). syncDue and reanchorDue are the model's own: the sample tick just taken brought the
counter to its limit (R51, R52, R55, log 5). -/
structure Reserve where
  q : Option Nat
  remainder : Nat
  fullRun : Nat
  restRun : Nat
  syncDue : Bool
  reanchorDue : Bool
  deriving DecidableEq, Repr

/-- The meter profile with its factory values (R41, R59). -/
structure Meter where
  capacity : Nat := 100
  pulseWeight : Nat := 360
  efficiency : Nat := 950
  resistance : Nat := 20
  quietTime : Nat := 60
  filterShift : Nat := 3
  restTime : Nat := 30
  restCurrent : Nat := 200
  restTolerance : Nat := 50
  fullVoltage : Nat := 14200
  tailCurrent : Nat := 2000
  fullTime : Nat := 5
  deriving DecidableEq, Repr

/-- The budget profile with its factory values (R69). -/
structure Budget where
  vOk : Nat := 12400
  vCut : Nat := 11600
  fFull : Nat := 500
  fFloor : Nat := 150
  aMax : Nat := 10000
  margin : Nat := 100
  spacing : Nat := 5
  cutHoldOff : Nat := 5
  debounce : Nat := 30
  deriving DecidableEq, Repr

/-- A point of the rest table (R60). -/
structure Point where
  voltage : Nat
  fraction : Nat
  deriving DecidableEq, Repr

/-- The factory rest table (R60). -/
def factoryRest : Vector Point 8 :=
  #v[⟨11800, 0⟩, ⟨12000, 100⟩, ⟨12100, 200⟩, ⟨12200, 350⟩, ⟨12300, 500⟩, ⟨12400, 650⟩, ⟨12550, 850⟩, ⟨12700, 1000⟩]

/-- Budget levels (R125). -/
inductive BudgetLevel where
  | ample | tight | shedding | depleted
  deriving DecidableEq, Repr

/-- The Budget Engine (R90, R93, R94, R106). -/
structure Engine where
  allowance : Nat
  level : BudgetLevel
  spacing : Nat
  holdOff : Nat
  seq : Nat
  exhausted : Bool
  runList : List Channel
  standbyList : List Channel
  deriving DecidableEq, Repr

/-- A switch line of the Request Unit (R75). due is the model's own: the line tick just taken completed the debounce
(R76, log 4). -/
structure SwitchLine where
  pressed : Bool
  run : Nat
  due : Bool
  deriving DecidableEq, Repr

/-- A filtered line: its level (true for asserted) and its run count (R7, R129, R145). -/
structure Filter where
  level : Bool
  run : Nat
  deriving DecidableEq, Repr

/-- The last-command record (R176). -/
structure LastCommand where
  command : Byte
  channel : Byte
  result : Byte
  count : Byte
  deriving DecidableEq, Repr

/-- The Record Port (R167, R169, R171, R173, R174, R176, R178, R180). sent is the model's own: the bytes that the part
sent in the last read (log 16). -/
structure Port where
  address : BitVec 7
  space : Space
  index : Nat
  offset : Nat
  staging : List Byte
  snapshot : Option (List Byte)
  sent : List Byte
  mask : Option Wide
  partialMark : Bool
  refusedMark : Bool
  flags : Byte
  enables : Byte
  last : LastCommand
  deriving DecidableEq, Repr

/-- The Profile Store (R187). The save-busy state is busy exactly while saving holds the save image in flight (R190). -/
structure Store where
  image : StoreWords
  saving : Option StoreWords
  restartPending : Bool
  failedCarry : Bool
  deriving DecidableEq, Repr

/-- Start-up control (R193, R194): the start-up state, the line ticks counted from its beginning, and the channel part
that stage 2 keeps for stage 3. -/
structure Startup where
  ready : Bool
  ticks : Nat
  kept : Option (Vector ChannelWords 12)
  deriving DecidableEq, Repr

/-- A piece of the work of a line, sample or second tick, one for each command that takes it (R2, log 3, log 7). -/
inductive TickWork where
  | line | sample | evaluation | dwell | minOff
  | settle (n : Channel)
  | holdLimit (n : Channel)
  | minOn (n : Channel)
  | retry (n : Channel)
  | cleanRun (n : Channel)
  deriving DecidableEq, Repr

/-- The state of the block, and the queue of commands that wait. -/
structure State where
  powered : Bool
  /-- The number, 1 to 10,000, of the latest capture tick within its second; 0 while none has come since power-on (R2). -/
  timebase : Nat
  /-- The model's own: the work of the ticks that fall at the latest capture tick which no command has taken yet (R2,
  log 7). -/
  due : List TickWork
  sense : Sense
  reserve : Reserve
  meter : Meter
  budget : Budget
  rest : Vector Point 8
  engine : Engine
  switches : Vector SwitchLine 12
  holds : Vector Filter 4
  forceOff : Filter
  setup : Filter
  loads : Vector Load 12
  port : Port
  store : Store
  startup : Startup
  pending : List Instr
  deriving DecidableEq, Repr

/-- Why the block stops. The spec gives the block no condition that stops it (INVENTORY.md, Faults), so there is none and
no meaning faults. -/
inductive Fault where
  deriving DecidableEq, Repr

/-- Why a command has no meaning. -/
inductive Refusal where
  /-- A command that the model does not give a meaning; safe. Every command has one, so no arm of exec answers this. -/
  | notModelled (mnemonic : String)
  deriving DecidableEq, Repr

/-- What a command answers. -/
abbrev Result := Host.Outcome State Fault Refusal

/-- A released filter (R7, R129). -/
def Filter.released : Filter := ⟨false, 0⟩

/-- A switch line before the first line tick of start-up: released, DESIGN CHOICE (R89, log 10). -/
def SwitchLine.fresh : SwitchLine := ⟨false, 0, false⟩

/-- The last-command record after power-on and after a restart (R176). -/
def LastCommand.empty : LastCommand := ⟨0xFF, 0xFF, 0x00, 0⟩

/-- An erased store: every byte reads FFh (R188). DESIGN CHOICE for the store of a fresh part (log 9). -/
def erasedStore : StoreWords where
  meter := ⟨0xFFFF, 0xFFFF, 0xFFFF, 0xFFFF, 0xFFFF, 0xFF, 0xFF, 0xFFFF, 0xFFFF, 0xFFFF, 0xFFFF, 0xFF⟩
  budget := ⟨0xFFFF, 0xFFFF, 0xFFFF, 0xFFFF, 0xFFFF, 0xFFFF, 0xFF, 0xFF, 0xFF⟩
  rest := Vector.replicate 8 ⟨0xFFFF, 0xFFFF⟩
  channels := Vector.replicate 12
    ⟨0xFF, 0xFF, 0xFFFF, 0xFFFF, 0xFF, 0xFF, 0xFF, 0xFFFF, 0xFFFF, 0xFFFF, 0xFF, 0xFF, 0xFF⟩
  checksum := 0xFFFF

/-- Battery Sense at power-on (R26, R43). -/
def Sense.atPowerOn : Sense where
  counter := 0
  cq := true
  edge := false
  stamp := none
  period := none
  dir := .discharge
  pub := ⟨0, false, 0, 0, 0⟩

/-- The Reserve Estimator at power-on (R45, R61). -/
def Reserve.atPowerOn : Reserve := ⟨none, 0, 0, 0, false, false⟩

/-- The Budget Engine at power-on (R90, R104, R106). -/
def Engine.atPowerOn : Engine := ⟨0, .ample, 255, 0, 0, false, [], []⟩

/-- The Record Port at power-on, with the address that the straps gave (R182). -/
def Port.atPowerOn (address : BitVec 7) : Port where
  address := address
  space := .load
  index := 0
  offset := 0
  staging := []
  snapshot := none
  sent := []
  mask := none
  partialMark := false
  refusedMark := false
  flags := 0x00
  enables := 0xDF
  last := .empty

/-- The block right after power-on, with this address, this stored image and this queue (R193: every block takes its
power-on values and stage 1 is taken; the stored image keeps its content without power, R187). -/
def State.poweredOn (address : BitVec 7) (image : StoreWords) (pending : List Instr) : State where
  powered := true
  timebase := 0
  due := []
  sense := .atPowerOn
  reserve := .atPowerOn
  meter := {}
  budget := {}
  rest := factoryRest
  engine := .atPowerOn
  switches := Vector.replicate 12 .fresh
  holds := Vector.replicate 4 .released
  forceOff := .released
  setup := .released
  loads := Vector.replicate 12 {}
  port := .atPowerOn address
  store := ⟨image, none, false, false⟩
  startup := ⟨false, 0, none⟩
  pending := pending

/-- The machine right after reset: power-on with both straps low (R167) and an erased store (R187), DESIGN CHOICE both
(log 8, log 9), and no command waiting. -/
def State.reset : State := .poweredOn 0x5C erasedStore []

end Sys2Proof.Machine
end

