-- ==== Sys2Proof/Machine/Flags.lean ====
section
/-! DEFINITION. The attention flags and their enables (R180, R185), the ALERT line (R181) and the status marks (R178). -/

namespace Sys2Proof.Machine

/-- The eight attention flags (R180). -/
inductive Flag where
  | shed | depleted | trip | lockout | holdExpired | anchored | storeFault | forceOff
  deriving DecidableEq, Repr

/-- The bit of a flag in the flag and enable bytes (R185). -/
def Flag.bit : Flag → Nat
  | .shed => 0
  | .depleted => 1
  | .trip => 2
  | .lockout => 3
  | .holdExpired => 4
  | .anchored => 5
  | .storeFault => 6
  | .forceOff => 7

/-- The byte with this flag alone. -/
def Flag.mask (f : Flag) : Byte := 1#8 <<< f.bit

/-- A cause sets its flag; a flag already set stays set (R180). -/
def State.raise (f : Flag) (s : State) : State :=
  { s with port := { s.port with flags := s.port.flags ||| f.mask } }

/-- Whether a flag is set. -/
def State.flag (s : State) (f : Flag) : Bool := s.port.flags.getLsbD f.bit

/-- The enables at start-up: every one set except that of ANCHORED (R182, R194). -/
def startUpEnables : Byte := 0xDF

/-- ALERT is driven low while at least one flag is set with its enable set (R181). -/
def State.alertLow (s : State) : Bool := (s.port.flags &&& s.port.enables) != 0

/-- A refusal sets the REFUSED mark (R178). -/
def State.refuse (s : State) : State := { s with port := { s.port with refusedMark := true } }

/-- REFUSED is set if the commit refused something, and left as it is otherwise (R6, R178). -/
def State.refuseIf (b : Bool) (s : State) : State := if b then s.refuse else s

end Sys2Proof.Machine
end

