-- ==== Sys2Proof/Machine/Operands.lean ====
section
/-! DEFINITION. The operand forms: the byte order and layouts of the records (0.6, R183 to R186), the codes of the
enumerated fields (R183), and the clamps of the numeric fields (R8, R41, R59, R60, R69). -/

namespace Sys2Proof.Machine

/-! ## Byte order (0.6: most significant byte first) -/

/-- A 2-byte field from its bytes. -/
def be16 (hi lo : Byte) : Half := hi ++ lo

/-- A 4-byte field from its bytes. -/
def be32 (a b c d : Byte) : Wide := be16 a b ++ be16 c d

/-- The bytes of a 2-byte field. -/
def halfBytes (h : Half) : List Byte := [h.extractLsb' 8 8, h.extractLsb' 0 8]

/-- The bytes of a 4-byte field. -/
def wideBytes (w : Wide) : List Byte :=
  [w.extractLsb' 24 8, w.extractLsb' 16 8, w.extractLsb' 8 8, w.extractLsb' 0 8]

/-- The 4-byte argument of a command as one unsigned value (R175, R186). -/
def argumentWord (a : Vector Byte 4) : Wide := be32 a[0] a[1] a[2] a[3]

/-- A value brought into a range: the nearest value within it (1.3, R8). -/
def clampTo (lo hi v : Nat) : Nat := max lo (min hi v)

/-! ## Codes of the enumerated fields (R183) -/

/-- A no or yes field, and OFF or ON: 00h or 01h. -/
def flagOfCode (b : Byte) : Option Bool :=
  if b = 0x00 then some false else if b = 0x01 then some true else none

/-- The code of a no or yes field. -/
def flagCode (b : Bool) : Byte := if b then 0x01 else 0x00

/-- Switch modes by code. -/
def switchModeOfCode (b : Byte) : Option SwitchMode :=
  if b = 0x00 then some .none else if b = 0x01 then some .toggle
  else if b = 0x02 then some .follow else if b = 0x03 then some .onOnly else none

/-- The code of a switch mode. -/
def switchModeCode : SwitchMode → Byte
  | .none => 0x00
  | .toggle => 0x01
  | .follow => 0x02
  | .onOnly => 0x03

/-- Hold lines by code: 00h is none, 01h to 04h HOLD0 to HOLD3. -/
def holdLineOfCode (b : Byte) : Option (Option HoldLine) :=
  if b = 0x00 then some none else if b = 0x01 then some (some 0) else if b = 0x02 then some (some 1)
  else if b = 0x03 then some (some 2) else if b = 0x04 then some (some 3) else none

/-- The code of a hold line field. -/
def holdLineCode : Option HoldLine → Byte
  | none => 0x00
  | some h => BitVec.ofNat 8 (h.val + 1)

/-- Restart policies by code. -/
def restartPolicyOfCode (b : Byte) : Option RestartPolicy :=
  if b = 0x00 then some .startOff else if b = 0x01 then some .startOn else none

/-- The code of a restart policy. -/
def restartPolicyCode : RestartPolicy → Byte
  | .startOff => 0x00
  | .startOn => 0x01

/-- The code of a record state. -/
def loadStateCode : LoadState → Byte
  | .vacant => 0x00
  | .idle => 0x01
  | .standby => 0x02
  | .starting => 0x03
  | .running => 0x04
  | .deferred => 0x05
  | .tripped => 0x06
  | .locked => 0x07

/-- The code of a reason or cause. -/
def reasonCode : Reason → Byte
  | .none => 0x00
  | .standby .forced => 0x01
  | .standby .minOff => 0x02
  | .standby .heldBack => 0x03
  | .standby .budget => 0x04
  | .standby .queued => 0x05
  | .deferred .budget => 0x11
  | .deferred .requestOff => 0x12

/-- The code of a budget level (R185). -/
def levelCode : BudgetLevel → Byte
  | .ample => 0x00
  | .tight => 0x01
  | .shedding => 0x02
  | .depleted => 0x03

/-- The code of a space (R168). -/
def spaceOfCode (b : Byte) : Option Space :=
  if b = 0x01 then some .load else if b = 0x02 then some .profile else if b = 0x03 then some .status
  else if b = 0x04 then some .command else if b = 0x05 then some .lists else none

/-- A draw field: FFFFh is absent (0.6, R183). -/
def drawOfWord (h : Half) : Option Nat := if h = 0xFFFF then none else some h.toNat

/-- The word of a draw field. -/
def drawWord : Option Nat → Half
  | none => 0xFFFF
  | some d => BitVec.ofNat 16 d

/-! ## The load record (R183) -/

/-- The 28 bytes of a load record as written, without the HW fields, whose bytes are ignored on write (R6). -/
structure LoadWords where
  enrolled : Byte
  cls : Byte
  request : Byte
  declaredDraw : Half
  settleTime : Byte
  switchMode : Byte
  holdLine : Byte
  learnEnable : Byte
  minOn : Half
  minOff : Half
  holdLimit : Half
  retryLimit : Byte
  retryBase : Byte
  restartPolicy : Byte
  deriving DecidableEq, Repr

/-- The written fields of a load record at their bytes (R183). -/
def loadWordsOf (d : Vector Byte 28) : LoadWords where
  enrolled := d[1]
  cls := d[2]
  request := d[3]
  declaredDraw := be16 d[4] d[5]
  settleTime := d[8]
  switchMode := d[9]
  holdLine := d[10]
  learnEnable := d[11]
  minOn := be16 d[12] d[13]
  minOff := be16 d[14] d[15]
  holdLimit := be16 d[16] d[17]
  retryLimit := d[18]
  retryBase := d[19]
  restartPolicy := d[20]

/-- The items of the change mask that name the written fields: the byte at which each begins (R174, R183). -/
def itemEnrolled : Nat := 1
def itemClass : Nat := 2
def itemRequest : Nat := 3
def itemDeclaredDraw : Nat := 4
def itemSettleTime : Nat := 8
def itemSwitchMode : Nat := 9
def itemHoldLine : Nat := 10
def itemLearnEnable : Nat := 11
def itemMinOn : Nat := 12
def itemMinOff : Nat := 14
def itemHoldLimit : Nat := 16
def itemRetryLimit : Nat := 18
def itemRetryBase : Nat := 19
def itemRestartPolicy : Nat := 20

/-! The clamps of R8. -/

def clampClass (b : Byte) : Nat := min b.toNat 7
def clampDeclared (h : Half) : Nat := clampTo 1 65534 h.toNat
def clampSettle (b : Byte) : Nat := clampTo 1 60 b.toNat
def clampMinTime (h : Half) : Nat := min h.toNat 3600
def clampHoldLimit (h : Half) : Nat := clampTo 1 3600 h.toNat
def clampRetryLimit (b : Byte) : Nat := min b.toNat 7
def clampRetryBase (b : Byte) : Nat := max 1 b.toNat

/-! ## The profile records (R184) -/

/-- The fields of the meter profile at their bytes. -/
def meterWordsOf (d : Vector Byte 32) : MeterWords where
  capacity := be16 d[0] d[1]
  pulseWeight := be16 d[2] d[3]
  efficiency := be16 d[4] d[5]
  resistance := be16 d[6] d[7]
  quietTime := be16 d[8] d[9]
  filterShift := d[10]
  restTime := d[11]
  restCurrent := be16 d[12] d[13]
  restTolerance := be16 d[14] d[15]
  fullVoltage := be16 d[16] d[17]
  tailCurrent := be16 d[18] d[19]
  fullTime := d[20]

/-- The fields of the meter profile clamped to their ranges (R41, R59). -/
def meterOfWords (w : MeterWords) : Meter where
  capacity := clampTo 1 1000 w.capacity.toNat
  pulseWeight := clampTo 100 60000 w.pulseWeight.toNat
  efficiency := clampTo 800 1000 w.efficiency.toNat
  resistance := min w.resistance.toNat 1000
  quietTime := clampTo 1 1500 w.quietTime.toNat
  filterShift := min w.filterShift.toNat 7
  restTime := clampTo 1 240 w.restTime.toNat
  restCurrent := w.restCurrent.toNat
  restTolerance := min w.restTolerance.toNat 1000
  fullVoltage := min w.fullVoltage.toNat 32767
  tailCurrent := w.tailCurrent.toNat
  fullTime := clampTo 1 60 w.fullTime.toNat

/-- The words of a held meter profile. -/
def meterWords (m : Meter) : MeterWords where
  capacity := BitVec.ofNat 16 m.capacity
  pulseWeight := BitVec.ofNat 16 m.pulseWeight
  efficiency := BitVec.ofNat 16 m.efficiency
  resistance := BitVec.ofNat 16 m.resistance
  quietTime := BitVec.ofNat 16 m.quietTime
  filterShift := BitVec.ofNat 8 m.filterShift
  restTime := BitVec.ofNat 8 m.restTime
  restCurrent := BitVec.ofNat 16 m.restCurrent
  restTolerance := BitVec.ofNat 16 m.restTolerance
  fullVoltage := BitVec.ofNat 16 m.fullVoltage
  tailCurrent := BitVec.ofNat 16 m.tailCurrent
  fullTime := BitVec.ofNat 8 m.fullTime

/-- The 21 field bytes of a meter profile, in the order of R184. -/
def meterBytes (w : MeterWords) : List Byte :=
  halfBytes w.capacity ++ halfBytes w.pulseWeight ++ halfBytes w.efficiency ++ halfBytes w.resistance
    ++ halfBytes w.quietTime ++ [w.filterShift, w.restTime] ++ halfBytes w.restCurrent ++ halfBytes w.restTolerance
    ++ halfBytes w.fullVoltage ++ halfBytes w.tailCurrent ++ [w.fullTime]

/-- The fields of the budget profile at their bytes. -/
def budgetWordsOf (d : Vector Byte 32) : BudgetWords where
  vOk := be16 d[0] d[1]
  vCut := be16 d[2] d[3]
  fFull := be16 d[4] d[5]
  fFloor := be16 d[6] d[7]
  aMax := be16 d[8] d[9]
  margin := be16 d[10] d[11]
  spacing := d[12]
  cutHoldOff := d[13]
  debounce := d[14]

/-- The fields of the budget profile clamped to their ranges (R69). -/
def budgetOfWords (w : BudgetWords) : Budget where
  vOk := min w.vOk.toNat 32767
  vCut := min w.vCut.toNat 32767
  fFull := min w.fFull.toNat 1000
  fFloor := min w.fFloor.toNat 1000
  aMax := max 1 w.aMax.toNat
  margin := w.margin.toNat
  spacing := clampTo 1 60 w.spacing.toNat
  cutHoldOff := clampTo 1 60 w.cutHoldOff.toNat
  debounce := clampTo 10 250 w.debounce.toNat

/-- The words of a held budget profile. -/
def budgetWords (b : Budget) : BudgetWords where
  vOk := BitVec.ofNat 16 b.vOk
  vCut := BitVec.ofNat 16 b.vCut
  fFull := BitVec.ofNat 16 b.fFull
  fFloor := BitVec.ofNat 16 b.fFloor
  aMax := BitVec.ofNat 16 b.aMax
  margin := BitVec.ofNat 16 b.margin
  spacing := BitVec.ofNat 8 b.spacing
  cutHoldOff := BitVec.ofNat 8 b.cutHoldOff
  debounce := BitVec.ofNat 8 b.debounce

/-- The 15 field bytes of a budget profile, in the order of R184. -/
def budgetBytes (w : BudgetWords) : List Byte :=
  halfBytes w.vOk ++ halfBytes w.vCut ++ halfBytes w.fFull ++ halfBytes w.fFloor ++ halfBytes w.aMax
    ++ halfBytes w.margin ++ [w.spacing, w.cutHoldOff, w.debounce]

/-- The points of the rest table at their bytes: point i has its voltage at byte 4i and its fraction at byte 4i + 2
(R184). -/
def restWordsOf (d : Vector Byte 32) : Vector PointWords 8 :=
  #v[⟨be16 d[0] d[1], be16 d[2] d[3]⟩, ⟨be16 d[4] d[5], be16 d[6] d[7]⟩,
     ⟨be16 d[8] d[9], be16 d[10] d[11]⟩, ⟨be16 d[12] d[13], be16 d[14] d[15]⟩,
     ⟨be16 d[16] d[17], be16 d[18] d[19]⟩, ⟨be16 d[20] d[21], be16 d[22] d[23]⟩,
     ⟨be16 d[24] d[25], be16 d[26] d[27]⟩, ⟨be16 d[28] d[29], be16 d[30] d[31]⟩]

/-- A point clamped to its ranges (R60). -/
def pointOfWords (p : PointWords) : Point := ⟨min p.voltage.toNat 32767, min p.fraction.toNat 1000⟩

/-- The words of a held point. -/
def pointWords (p : Point) : PointWords := ⟨BitVec.ofNat 16 p.voltage, BitVec.ofNat 16 p.fraction⟩

/-- The bytes of a point, in the order of R184. -/
def pointBytes (p : PointWords) : List Byte := halfBytes p.voltage ++ halfBytes p.fraction

/-- The channel part of the store for a held record (R188). -/
def channelWords (r : Load) : ChannelWords where
  enrolled := flagCode (r.state != .vacant)
  cls := BitVec.ofNat 8 r.cls
  declaredDraw := BitVec.ofNat 16 r.declaredDraw
  learnedDraw := drawWord r.learnedDraw
  settleTime := BitVec.ofNat 8 r.settleTime
  switchMode := switchModeCode r.switchMode
  holdLine := holdLineCode r.holdLine
  minOn := BitVec.ofNat 16 r.minOn
  minOff := BitVec.ofNat 16 r.minOff
  holdLimit := BitVec.ofNat 16 r.holdLimit
  retryLimit := BitVec.ofNat 8 r.retryLimit
  retryBase := BitVec.ofNat 8 r.retryBase
  restartPolicy := restartPolicyCode r.restartPolicy

/-- The 18 bytes of a channel part (R188). -/
def channelBytes (w : ChannelWords) : List Byte :=
  [w.enrolled, w.cls] ++ halfBytes w.declaredDraw ++ halfBytes w.learnedDraw ++ [w.settleTime, w.switchMode, w.holdLine]
    ++ halfBytes w.minOn ++ halfBytes w.minOff ++ halfBytes w.holdLimit ++ [w.retryLimit, w.retryBase, w.restartPolicy]

end Sys2Proof.Machine
end

