-- ==== Sys2Proof/Machine/Ops.lean ====
section
/-! DEFINITION. The shared operations: the timebase and its ticks (R2), reading and writing records, stamps and lists
(R90 to R96), the start (R98), the cuts (R100, R101), the ends of waits (R131, R136), essential starts (R102) and the
cancellation of learn windows by output changes (R164). -/

namespace Sys2Proof.Machine

/-! ## Answering -/

/-- A command taken by a part that has power; a part without power takes none (R191, log 11). -/
def whenPowered (s t : State) : Result := .next (if s.powered then t else s)

/-- A transaction taken by a port that acknowledges its address, which it does in READY only (R167). -/
def whenAnswering (s t : State) : Result := .next (if s.powered && s.startup.ready then t else s)

/-! ## Channels -/

/-- The twelve channels in channel order. -/
def channels : List Channel := [0, 1, 2, 3, 4, 5, 6, 7, 8, 9, 10, 11]

/-! ## The timebase (R2, log 7) -/

/-- The work of a second tick (log 3). -/
def secondTickWork : List TickWork :=
  [.evaluation, .dwell, .minOff]
    ++ channels.flatMap fun n => [.settle n, .holdLimit n, .minOn n, .retry n, .cleanRun n]

/-- The work of the ticks that fall at this place, 1 to 10,000, of the second: every 10th capture tick from power-on is also a
line tick, every 250th line tick a sample tick, and every 4th sample tick a second tick (R2). -/
def workAt (place : Nat) : List TickWork :=
  (if place % 10 = 0 then [.line] else []) ++ (if place % 2500 = 0 then [.sample] else [])
    ++ (if place % 10000 = 0 then secondTickWork else [])

/-- A capture tick counted: the timebase holds its place within the second, and the work of the ticks that fall there becomes
due. -/
def State.tickCounted (s : State) : State :=
  let place := s.timebase % 10000 + 1
  { s with timebase := place, due := workAt place }

/-- A piece of work is no longer due. -/
def State.workTaken (w : TickWork) (s : State) : State := { s with due := s.due.erase w }

/-- A command of a tick takes its work where a tick has made it due, and so once at each such tick (R2); otherwise it changes
nothing (log 1). -/
def State.takeWork (w : TickWork) (effect : State → State) (s : State) : State :=
  if w ∈ s.due then effect (s.workTaken w) else s

/-! ## Records -/

/-- Load record n. -/
def State.load (s : State) (n : Channel) : Load := s.loads[n]

/-- A change of load record n alone. -/
def State.modify (n : Channel) (f : Load → Load) (s : State) : State :=
  { s with loads := s.loads.set n (f (s.load n)) }

/-- A change of every load record. -/
def State.mapLoads (f : Channel → Load → Load) (s : State) : State :=
  { s with loads := Vector.ofFn fun n => f n (s.load n) }

/-- The output is on in STARTING, RUNNING and DEFERRED, and off in every other state (R17, R144). -/
def Load.on (r : Load) : Bool := r.state == .starting || r.state == .running || r.state == .deferred

/-- A record is enrolled in every state except VACANT (R3). -/
def Load.enrolled (r : Load) : Bool := r.state != .vacant

/-- The output lines OUT0 to OUT11, a view of the records (R144, log 22). -/
def State.outputs (s : State) : Vector Bool 12 := Vector.ofFn fun n => (s.load n).on

/-- The effective draw in mA (R5, R68). -/
def Load.drawMa (r : Load) : Nat := r.learnedDraw.getD r.declaredDraw * 10

/-- Whether the filtered level of a hold line is asserted (R129). -/
def State.held (s : State) (h : Option HoldLine) : Bool :=
  match h with
  | none => false
  | some h => s.holds[h].level

/-- Eligible: FORCE_OFF released and dwell at least min-off (R102, R119). -/
def State.eligible (s : State) (r : Load) : Bool := !s.forceOff.level && decide (r.minOff ≤ r.dwell)

/-- The reason set at an entry into STANDBY (R19). -/
def State.entryReason (s : State) (r : Load) : StandbyReason :=
  if s.forceOff.level then .forced else if r.dwell < r.minOff then .minOff else .queued

/-! ## Stamps (R90) -/

/-- The last stamp that the counter issues (R90). -/
def lastStamp : Nat := 4294967295

/-- One stamp, the value of the counter, has been issued: the counter increments, and after the last stamp it is exhausted
and holds that value (R90). -/
def State.stampIssued (s : State) : State :=
  if s.engine.seq < lastStamp then { s with engine := { s.engine with seq := s.engine.seq + 1 } }
  else { s with engine := { s.engine with exhausted := true } }

/-! ## Lists (R93, R94) -/

/-- Insertion at the first place whose entry the new one stands before. -/
def insertBy (before : Channel → Channel → Bool) (n : Channel) : List Channel → List Channel
  | [] => [n]
  | m :: ms => if before n m then n :: m :: ms else m :: insertBy before n ms

/-- The order of the Standby List: class ascending, and within one class request stamp ascending (R93). -/
def State.standbyBefore (s : State) (a b : Channel) : Bool :=
  let ra := s.load a
  let rb := s.load b
  decide (ra.cls < rb.cls) || (ra.cls == rb.cls && decide (ra.requestStamp.getD 0 < rb.requestStamp.getD 0))

/-- The record enters the Standby List at the position its class and request stamp give (R93). -/
def State.joinStandby (n : Channel) (s : State) : State :=
  { s with engine := { s.engine with standbyList := insertBy s.standbyBefore n s.engine.standbyList } }

/-- The record leaves the Standby List (R93). -/
def State.leaveStandby (n : Channel) (s : State) : State :=
  { s with engine := { s.engine with standbyList := s.engine.standbyList.erase n } }

/-- The record enters the Run List at the tail (R94). -/
def State.joinRun (n : Channel) (s : State) : State :=
  { s with engine := { s.engine with runList := s.engine.runList ++ [n] } }

/-- The record leaves the Run List (R94). -/
def State.leaveRun (n : Channel) (s : State) : State :=
  { s with engine := { s.engine with runList := s.engine.runList.erase n } }

/-! ## Learn windows (R158, R164) -/

/-- What an open window holds. -/
def Window.opening : Window → Option Opening
  | .closed => none
  | .settling o => some o
  | .closing o => some o

/-- The learn window open mark is set while the window is settling or closing (R158). -/
def Window.isOpen (w : Window) : Bool := w.opening.isSome

/-- An output line of another channel does not stand at the level it held when the window opened (R164). -/
def Opening.spoiled (n : Channel) (o : Opening) (now : Vector Bool 12) : Bool :=
  channels.any fun m => m != n && o.lines[m] != now[m]

/-- A window after the output lines stand as given: cancelled if another channel's line changed (R164). -/
def Window.swept (n : Channel) (now : Vector Bool 12) (w : Window) : Window :=
  match w.opening with
  | none => w
  | some o => if o.spoiled n now then .closed else w

/-- The end of an event: an output change of one channel cancels the learn windows of the others. A change counts when the
line does not stand, at the end of the event, at the level it held when the window opened (R144, R164). -/
def State.sweepWindows (s : State) : State :=
  s.mapLoads fun n r => { r with window := r.window.swept n s.outputs }

/-! ## Entering STANDBY and IDLE -/

/-- The record moves to STANDBY: its reason is set at the entry, and it is placed in the Standby List (R18, R19). -/
def State.enterStandby (n : Channel) (s : State) : State :=
  (s.modify n fun r => { r with state := .standby, reason := .standby (s.entryReason r), retryTimer := none }).joinStandby n

/-- A record that becomes IDLE: no reason, no shed mark, no request stamp, no retry timer (R19, R20, R91). -/
def Load.toIdle (r : Load) : Load :=
  { r with state := .idle, reason := .none, shed := false, requestStamp := none, retryTimer := none }

/-! ## The start (R98) -/

/-- The record of a start with this stamp (R98, steps 2 to 5): the settle timer takes the settle time, dwell is 0, and the
diagnostic blanking begins (R149). Where the same commit has cut the record before, the line does not change, and
Load.keepLine gives these counts back at its end (R144, log 34). -/
def Load.started (stamp : Nat) (r : Load) : Load :=
  { r with
    state := .starting
    startStamp := some stamp
    settleTimer := r.settleTime
    shed := false
    reason := .none
    dwell := 0
    blanking := 20
    diagRun := 0 }

/-- The Draw Learner opens a window at a start if learn enable is yes (R98 step 7, R159): I_before is the I_s of the latest
published set with its validity, the direction is the last direction held, and the output lines are as they now stand. -/
def State.openWindow (n : Channel) (s : State) : State :=
  s.modify n fun r =>
    if r.learnEnable then
      { r with window := .settling ⟨s.sense.pub.current, s.sense.pub.valid, s.sense.dir, s.outputs⟩ }
    else { r with window := .closed }

/-- A start of a record in STANDBY (R98). A start that needs a stamp while the counter is exhausted is not made (R90). -/
def State.start (n : Channel) (s : State) : State :=
  if (s.load n).state == .standby && !s.engine.exhausted then
    let s := ((s.leaveStandby n).modify n (Load.started s.engine.seq)).stampIssued.joinRun n
    { s with engine := { s.engine with spacing := 0 } }.openWindow n
  else s

/-- The essential check of one record: a class 0 record in STANDBY that is eligible is started (R102). -/
def State.essentialCheck (n : Channel) (s : State) : State :=
  let r := s.load n
  if r.state == .standby && r.cls == 0 && s.eligible r then s.start n else s

/-- The essential check of every class 0 STANDBY record, in Standby List order (R102). -/
def State.essentialSweep (s : State) : State :=
  s.engine.standbyList.foldl (fun t n => t.essentialCheck n) s

/-! ## Leaving the Run List (R100, R101, R136) -/

/-- What every way out of the Run List does to the record (R92, R99, R100, R141, R144, R149, R153, R163): the start stamp is
lost, the settle timer, the waits, the hold-limit timer and the clean-run count end, dwell is 0, the record's own learn
window is cancelled, and the channel's diagnostic filter is cleared. -/
def Load.switchedOff (r : Load) : Load :=
  { r with
    startStamp := none
    settleTimer := 0
    waitHold := false
    waitMinOn := false
    holdTimer := 0
    cleanRun := 0
    dwell := 0
    window := .closed
    blanking := 0
    diagRun := 0 }

/-- The output of an on record goes off and the record leaves the Run List. -/
def State.switchOff (n : Channel) (s : State) : State := (s.modify n Load.switchedOff).leaveRun n

/-- A budget cut (R100): to STANDBY with the request stamp kept, the shed mark and the SHED attention set, and the cut
hold-off timer set to the cut hold-off of the budget profile (R122). A cut acts on a record in the Run List. -/
def State.budgetCut (n : Channel) (s : State) : State :=
  if (s.load n).on then
    let s := (((s.switchOff n).enterStandby n).modify n fun r => { r with shed := true }).raise .shed
    { s with engine := { s.engine with holdOff := s.budget.cutHoldOff } }
  else s

/-- A cut to IDLE, for a request OFF or a REQUEST_OFF deferral (R83, R100): the request stamp is discarded. -/
def State.cutToIdle (n : Channel) (s : State) : State :=
  if (s.load n).on then (s.switchOff n).modify n Load.toIdle else s

/-- A cut by FORCE_OFF to STANDBY with reason FORCED and the request stamp kept (R100, R146). -/
def State.forcedCut (n : Channel) (s : State) : State :=
  if (s.load n).on then (s.switchOff n).enterStandby n else s

/-- The cut of a DEFERRED record whose last wait has ended, by the cause it carries (R101, R136). -/
def State.deferredCut (n : Channel) (s : State) : State :=
  match (s.load n).reason with
  | .deferred .requestOff => s.cutToIdle n
  | _ => s.budgetCut n

/-- The cut of a DEFERRED record if no wait of it is left (R131, R136). -/
def State.cutIfNoWait (n : Channel) (s : State) : State :=
  let r := s.load n
  if r.state == .deferred && !r.waitHold && !r.waitMinOn then s.deferredCut n else s

/-- The hold wait of a DEFERRED record ends: its mark clears and its hold-limit timer ends; the record is cut if no wait is
left (R133, R136). -/
def State.endHoldWait (n : Channel) (s : State) : State :=
  (s.modify n fun r => { r with waitHold := false, holdTimer := 0 }).cutIfNoWait n

/-- The min-on wait of a DEFERRED record ends; the record is cut if no wait is left (R135, R136). -/
def State.endMinOnWait (n : Channel) (s : State) : State :=
  (s.modify n fun r => { r with waitMinOn := false }).cutIfNoWait n

/-- A deferral ends without a cut and the record returns to RUNNING (R21, R85, R141): both waits and the hold-limit timer
end, the record does not settle again, and its clean-run count begins at 0 (R153). -/
def Load.backToRunning (r : Load) : Load :=
  { r with
    state := .running
    reason := .none
    waitHold := false
    waitMinOn := false
    holdTimer := 0
    settleTimer := 0
    cleanRun := 0 }

/-- What a commit that cuts an on record and starts it again leaves of the output's own counts. The line stands on before and
after the one event, so it does not change, and the event counts as no output change for the diagnostic filter or for dwell:
all three counts are those of before (R144). That R144 prevails here over the dwell of 0 and the blanking of R22, R98 and
R100 is DEDUCED (log 34). A record that is off before and after, started and cut between, keeps the dwell of 0 that its start
and its cut leave, by R78 for a start on a request, and DEDUCED for a start on a class change to 0 (log 35). -/
def Load.keepLine (before after : Load) : Load :=
  if before.on && after.on then
    { after with dwell := before.dwell, blanking := before.blanking, diagRun := before.diagRun }
  else after

/-- A record becomes DEFERRED with this cause and these waits (R18, R83, R114): it keeps its place in the Run List, abandons
its settle timer, ends its clean-run count, loses its learn window, and its hold-limit timer is set to the hold limit with
the hold wait (R132). -/
def Load.deferWith (cause : DeferCause) (hold minOn : Bool) (r : Load) : Load :=
  { r with
    state := .deferred
    reason := .deferred cause
    waitHold := hold
    waitMinOn := minOn
    holdTimer := if hold then r.holdLimit else 0
    settleTimer := 0
    cleanRun := 0
    window := .closed }

/-! ## The reserve (R46, R50) -/

/-- The capacity C in mAs (R46). -/
def Meter.capacityMas (m : Meter) : Nat := m.capacity * 3600000

/-- The reserve fraction f in per-mille while anchored, and absent while unanchored (R50). -/
def State.fraction (s : State) : Option Nat := s.reserve.q.map fun q => q * 1000 / s.meter.capacityMas

end Sys2Proof.Machine
end

