-- ==== Sys2Proof/Machine/Requests.lean ====
section
/-! DEFINITION. Request arrivals at a record (05_requests_and_switch_lines.md, R74, R81 to R87). -/

namespace Sys2Proof.Machine

/-- The record takes the stamp that the counter issues as its request stamp, with request ON (R74, R90). -/
def State.takeRequestStamp (n : Channel) (s : State) : State :=
  (s.modify n fun r => { r with request := true, requestStamp := some s.engine.seq }).stampIssued

/-- An arrival of ON (R81, R85 to R87). While the counter is exhausted it is refused like one at a LOCKED record (R90). ON
reaches only IDLE, LOCKED, DEFERRED with cause REQUEST_OFF and TRIPPED (R74). -/
def State.arriveOn (n : Channel) (s : State) : State :=
  if s.engine.exhausted then s.refuse
  else
    match (s.load n).state with
    | .idle => ((s.takeRequestStamp n).enterStandby n).essentialCheck n
    | .deferred => (s.takeRequestStamp n).modify n Load.backToRunning
    | .tripped => s.takeRequestStamp n
    | .locked => s.refuse
    | .vacant | .standby | .starting | .running => s

/-- An arrival of OFF at a STARTING or RUNNING record is decided on its hold line alone (R83): cut to IDLE, or DEFERRED with
cause REQUEST_OFF and a hold wait. -/
def State.offWhileOn (n : Channel) (s : State) : State :=
  if s.held (s.load n).holdLine then s.modify n (Load.deferWith .requestOff true false) else s.cutToIdle n

/-- An arrival of OFF (R82 to R84, R86). OFF reaches only STANDBY, STARTING, RUNNING, DEFERRED with cause BUDGET and TRIPPED
(R74). -/
def State.arriveOff (n : Channel) (s : State) : State :=
  let t := s.modify n fun r => { r with request := false }
  match (s.load n).state with
  | .standby => (t.modify n Load.toIdle).leaveStandby n
  | .starting | .running => t.offWhileOn n
  | .deferred => t.modify n fun r => { r with reason := .deferred .requestOff }
  | .tripped => t.modify n Load.toIdle
  | .vacant | .idle | .locked => s

/-- The request of a record is set to a value: an arrival if the value differs from the one held, and nothing otherwise
(R74). -/
def State.setRequest (n : Channel) (on : Bool) (s : State) : State :=
  if (s.load n).request = on then s else if on then s.arriveOn n else s.arriveOff n

end Sys2Proof.Machine
end

