-- ==== Sys2Proof/Machine/LoadTable.lean ====
section
/-! DEFINITION. A commit in the LOAD space (01_the_load_table.md, R6 to R16, R21, R78, R80): the write classes, the clamps
and refusals, enrolment, retirement, and the field events in their order. -/

namespace Sys2Proof.Machine

/-! ## Written fields and write classes (R6, R9, R174) -/

/-- The commit writes the field that begins at this byte: every field when no change mask is armed, and the masked fields
when one is (R6, R174). -/
def writes (mask : Option Wide) (item : Nat) : Bool :=
  match mask with
  | none => true
  | some m => m.getLsbD item

/-- An INSTALL field: the written value is taken while SETUP is asserted (R6). -/
def takeInstall {α : Type} (setup written : Bool) (held new : α) : α := if written && setup then new else held

/-- An INSTALL field written while SETUP is released is refused if it differs from the value held (R6). -/
def refuseInstall {α : Type} [DecidableEq α] (setup written : Bool) (held new : α) : Bool :=
  written && !setup && decide (new ≠ held)

/-- An INSTALL field of enumerated values; a code that names no value keeps the value held (R9). -/
def takeInstallCode {α : Type} (setup written : Bool) (held : α) (code : Option α) : α :=
  match code with
  | some v => takeInstall setup written held v
  | none => held

/-- A written code that names no value is refused whatever the SETUP level (R9). -/
def refuseInstallCode {α : Type} [DecidableEq α] (setup written : Bool) (held : α) (code : Option α) : Bool :=
  match code with
  | some v => refuseInstall setup written held v
  | none => written

/-- The INSTALL fields and learn enable, which have no field event, as a commit takes them (R6, R8, R13). -/
def Load.takeFields (setup : Bool) (mask : Option Wide) (w : LoadWords) (r : Load) : Load :=
  { r with
    declaredDraw := takeInstall setup (writes mask itemDeclaredDraw) r.declaredDraw (clampDeclared w.declaredDraw)
    settleTime := takeInstall setup (writes mask itemSettleTime) r.settleTime (clampSettle w.settleTime)
    switchMode := takeInstallCode setup (writes mask itemSwitchMode) r.switchMode (switchModeOfCode w.switchMode)
    holdLine := takeInstallCode setup (writes mask itemHoldLine) r.holdLine (holdLineOfCode w.holdLine)
    learnEnable := if writes mask itemLearnEnable then (flagOfCode w.learnEnable).getD r.learnEnable else r.learnEnable
    minOn := takeInstall setup (writes mask itemMinOn) r.minOn (clampMinTime w.minOn)
    minOff := takeInstall setup (writes mask itemMinOff) r.minOff (clampMinTime w.minOff)
    holdLimit := takeInstall setup (writes mask itemHoldLimit) r.holdLimit (clampHoldLimit w.holdLimit)
    retryLimit := takeInstall setup (writes mask itemRetryLimit) r.retryLimit (clampRetryLimit w.retryLimit)
    retryBase := takeInstall setup (writes mask itemRetryBase) r.retryBase (clampRetryBase w.retryBase)
    restartPolicy :=
      takeInstallCode setup (writes mask itemRestartPolicy) r.restartPolicy (restartPolicyOfCode w.restartPolicy) }

/-- Whether an INSTALL field other than enrolled is refused (R6, R8, R9). -/
def Load.refusesInstall (setup : Bool) (mask : Option Wide) (w : LoadWords) (r : Load) : Bool :=
  refuseInstall setup (writes mask itemDeclaredDraw) r.declaredDraw (clampDeclared w.declaredDraw)
  || refuseInstall setup (writes mask itemSettleTime) r.settleTime (clampSettle w.settleTime)
  || refuseInstallCode setup (writes mask itemSwitchMode) r.switchMode (switchModeOfCode w.switchMode)
  || refuseInstallCode setup (writes mask itemHoldLine) r.holdLine (holdLineOfCode w.holdLine)
  || refuseInstall setup (writes mask itemMinOn) r.minOn (clampMinTime w.minOn)
  || refuseInstall setup (writes mask itemMinOff) r.minOff (clampMinTime w.minOff)
  || refuseInstall setup (writes mask itemHoldLimit) r.holdLimit (clampHoldLimit w.holdLimit)
  || refuseInstall setup (writes mask itemRetryLimit) r.retryLimit (clampRetryLimit w.retryLimit)
  || refuseInstall setup (writes mask itemRetryBase) r.retryBase (clampRetryBase w.retryBase)
  || refuseInstallCode setup (writes mask itemRestartPolicy) r.restartPolicy (restartPolicyOfCode w.restartPolicy)

/-- Whether a written code names no value of its field (R9). -/
def unknownCode (mask : Option Wide) (w : LoadWords) : Bool :=
  (writes mask itemEnrolled && (flagOfCode w.enrolled).isNone)
  || (writes mask itemRequest && (flagOfCode w.request).isNone)
  || (writes mask itemSwitchMode && (switchModeOfCode w.switchMode).isNone)
  || (writes mask itemHoldLine && (holdLineOfCode w.holdLine).isNone)
  || (writes mask itemLearnEnable && (flagOfCode w.learnEnable).isNone)
  || (writes mask itemRestartPolicy && (restartPolicyOfCode w.restartPolicy).isNone)

/-- The enrolled value that the commit writes, if it writes one. -/
def writtenEnrolled (mask : Option Wide) (w : LoadWords) : Option Bool :=
  if writes mask itemEnrolled then flagOfCode w.enrolled else none

/-- The request that the commit writes, if it writes one. -/
def writtenRequest (mask : Option Wide) (w : LoadWords) : Option Bool :=
  if writes mask itemRequest then flagOfCode w.request else none

/-! ## A VACANT record (R11, R15) -/

/-- Enrolment (R15): the written USER and INSTALL fields are taken, class 0 included; the request is forced OFF; the HW
fields keep their defaults; the state becomes IDLE. -/
def Load.enrolledWith (mask : Option Wide) (w : LoadWords) (r : Load) : Load :=
  { r.takeFields true mask w with
    state := .idle
    cls := if writes mask itemClass then clampClass w.cls else r.cls
    request := false }

/-- What a commit that does not enrol refuses on a VACANT record: every written USER or INSTALL field that differs from its
default, whatever the SETUP level (R11). -/
def Load.vacantRefuses (mask : Option Wide) (w : LoadWords) (r : Load) : Bool :=
  r.refusesInstall false mask w
  || (writes mask itemEnrolled && decide (flagOfCode w.enrolled ≠ some false))
  || (writes mask itemClass && decide (clampClass w.cls ≠ r.cls))
  || (writes mask itemRequest && decide (flagOfCode w.request ≠ some r.request))
  || (writes mask itemLearnEnable && decide (flagOfCode w.learnEnable ≠ some r.learnEnable))

/-- A commit at a VACANT record. -/
def State.commitVacant (n : Channel) (mask : Option Wide) (w : LoadWords) (s : State) : State :=
  if s.setup.level && writtenEnrolled mask w == some true then
    (s.modify n (Load.enrolledWith mask w)).refuseIf (unknownCode mask w)
  else s.refuseIf ((s.load n).vacantRefuses mask w)

/-! ## Retirement (R16) -/

/-- Retirement: the output goes off, the record leaves its list, and every field returns to its default. -/
def State.retire (n : Channel) (s : State) : State := ((s.leaveRun n).leaveStandby n).modify n fun _ => {}

/-! ## The class (R8, R10, R21) -/

/-- Another record of class 1 to 7 is STARTING (R21). -/
def State.otherStarting (n : Channel) (s : State) : Bool :=
  channels.any fun m => m != n && (s.load m).state == .starting && (s.load m).cls != 0

/-- The class that the commit writes after clamping, if it differs from the class held (R6, R8). -/
def Load.classWritten (mask : Option Wide) (w : LoadWords) (r : Load) : Option Nat :=
  if writes mask itemClass && clampClass w.cls != r.cls then some (clampClass w.cls) else none

/-- A class that differs is refused by the class-0 protection while SETUP is released (R10), and, whatever the SETUP level,
for a class 0 record that is STARTING while another of class 1 to 7 is (R21). -/
def State.classRefused (n : Channel) (new : Nat) (s : State) : Bool :=
  let r := s.load n
  (!s.setup.level && (new == 0 || r.cls == 0)) || (r.cls == 0 && r.state == .starting && s.otherStarting n)

/-- A class change taken at a commit (R21, R96): a STANDBY record is sorted in again and, if now of class 0, gets the essential
check; a BUDGET deferral of a record now of class 0 ends. -/
def State.changeClass (n : Channel) (new : Nat) (s : State) : State :=
  let t := s.modify n fun r => { r with cls := new }
  let r := s.load n
  match r.state with
  | .standby => ((t.leaveStandby n).joinStandby n).essentialCheck n
  | .deferred => if new = 0 ∧ r.reason = .deferred .budget then t.modify n Load.backToRunning else t
  | .vacant | .idle | .starting | .running | .tripped | .locked => t

/-! ## The other fields' effects at the commit -/

/-- Retries used after a commit that writes the retry limit: the new limit plus 1 on a LOCKED record, and at most the new
limit on any other (R14). -/
def Load.adjustRetries (r : Load) : Load :=
  { r with retriesUsed := if r.state = .locked then r.retryLimit + 1 else min r.retriesUsed r.retryLimit }

/-- A new hold line on a record that waits on hold moves the wait; a line that is released, or none, ends it (R13). -/
def State.moveHold (n : Channel) (before : Option HoldLine) (s : State) : State :=
  let r := s.load n
  if r.state == .deferred && r.waitHold && r.holdLine != before && !s.held r.holdLine then s.endHoldWait n else s

/-- A switch mode changed to FOLLOW sets the request to the stable level of the switch (R78). -/
def State.followEntered (n : Channel) (before : SwitchMode) (s : State) : State :=
  if (s.load n).switchMode == .follow && before != .follow && (s.load n).enrolled then
    s.setRequest n s.switches[n].pressed
  else s

/-! ## The commit (R12) -/

/-- What a commit that does not retire refuses on an enrolled record, but for the class and an arrival at a LOCKED record. -/
def Load.refuses (setup : Bool) (mask : Option Wide) (w : LoadWords) (r : Load) : Bool :=
  r.refusesInstall setup mask w
  || refuseInstallCode setup (writes mask itemEnrolled) true (flagOfCode w.enrolled)
  || (writes mask itemRequest && (flagOfCode w.request).isNone)
  || (writes mask itemLearnEnable && (flagOfCode w.learnEnable).isNone)

/-- The class field of a commit: refused, or taken with its change (R10, R12, R21). -/
def State.commitClass (n : Channel) (mask : Option Wide) (w : LoadWords) (refused : Bool) (s : State) : State :=
  match (s.load n).classWritten mask w with
  | some c => if refused then s.refuse else s.changeClass n c
  | none => s

/-- The request field of a commit (R12, R80). -/
def State.commitRequest (n : Channel) (mask : Option Wide) (w : LoadWords) (s : State) : State :=
  match writtenRequest mask w with
  | some on => s.setRequest n on
  | none => s

/-- A commit that leaves an enrolled record enrolled: the fields are taken, clamped or refused; then come the effects of a new
retry limit (R14) and a new hold line (R13, log 20), the class change, the request change and the FOLLOW entry, in this
order (R12, R78). An output that the commit turned off and on again has not changed (R144, log 34). A STANDBY record that the
class change to 0 starts and the request OFF or the FOLLOW entry of the same commit cuts ends with dwell 0 (DEDUCED from R78's
case, log 35). -/
def State.commitEnrolled (n : Channel) (mask : Option Wide) (w : LoadWords) (s : State) : State :=
  let r := s.load n
  let classRefused := s.classRefused n (clampClass w.cls)
  let s := (s.modify n (Load.takeFields s.setup.level mask w)).refuseIf (r.refuses s.setup.level mask w)
  let s := if writes mask itemRetryLimit && s.setup.level then s.modify n Load.adjustRetries else s
  let s := s.moveHold n r.holdLine
  let s := s.commitClass n mask w classRefused
  let s := s.commitRequest n mask w
  let s := s.followEntered n r.switchMode
  s.modify n r.keepLine

/-- A commit at an enrolled record: a retirement, whose other values are discarded (R16), or a commit of its fields. -/
def State.commitHeld (n : Channel) (mask : Option Wide) (w : LoadWords) (s : State) : State :=
  if s.setup.level && writtenEnrolled mask w == some false then (s.retire n).refuseIf (unknownCode mask w)
  else s.commitEnrolled n mask w

/-- A commit of load record n (R12). -/
def State.commitLoad (n : Channel) (mask : Option Wide) (w : LoadWords) (s : State) : State :=
  (if (s.load n).enrolled then s.commitHeld n mask w else s.commitVacant n mask w).sweepWindows

end Sys2Proof.Machine
end

