-- ==== Sys2Proof/Machine/Profiles.lean ====
section
/-! DEFINITION. Commits of the three PROFILE records (R41, R42, R58 to R60, R69 to R72). -/

namespace Sys2Proof.Machine

/-! ## Meter profile (R41, R58, R59) -/

/-- The proposed meter profile: the clamped written fields, and the held values of the fields that an armed change mask
leaves out (R41, R59, R174). Items are the bytes of R184. -/
def Meter.proposed (mask : Option Wide) (new held : Meter) : Meter where
  capacity := if writes mask 0 then new.capacity else held.capacity
  pulseWeight := if writes mask 2 then new.pulseWeight else held.pulseWeight
  efficiency := if writes mask 4 then new.efficiency else held.efficiency
  resistance := if writes mask 6 then new.resistance else held.resistance
  quietTime := if writes mask 8 then new.quietTime else held.quietTime
  filterShift := if writes mask 10 then new.filterShift else held.filterShift
  restTime := if writes mask 11 then new.restTime else held.restTime
  restCurrent := if writes mask 12 then new.restCurrent else held.restCurrent
  restTolerance := if writes mask 14 then new.restTolerance else held.restTolerance
  fullVoltage := if writes mask 16 then new.fullVoltage else held.fullVoltage
  tailCurrent := if writes mask 18 then new.tailCurrent else held.tailCurrent
  fullTime := if writes mask 20 then new.fullTime else held.fullTime

/-- A Q above the capacity of the new profile becomes that capacity, with remainder 0 (R58). -/
def Reserve.clampTo (m : Meter) (e : Reserve) : Reserve :=
  match e.q with
  | some q => if m.capacityMas < q then { e with q := some m.capacityMas, remainder := 0 } else e
  | none => e

/-- A meter profile taken whole (R42, R58, R59): it becomes the held profile, and acts on Q only through the capacity. -/
def State.takeMeter (m : Meter) (s : State) : State := { s with meter := m, reserve := s.reserve.clampTo m }

/-- A commit of the meter profile (R41, R59): the written fields are taken while SETUP is asserted; while it is released
each field keeps its value, and a clamped value that differs is refused. -/
def State.commitMeter (mask : Option Wide) (w : MeterWords) (s : State) : State :=
  let p := (meterOfWords w).proposed mask s.meter
  if s.setup.level then s.takeMeter p else s.refuseIf (decide (p ≠ s.meter))

/-! ## Budget profile (R69 to R72) -/

/-- The proposed budget profile (R70). -/
def Budget.proposed (mask : Option Wide) (new held : Budget) : Budget where
  vOk := if writes mask 0 then new.vOk else held.vOk
  vCut := if writes mask 2 then new.vCut else held.vCut
  fFull := if writes mask 4 then new.fFull else held.fFull
  fFloor := if writes mask 6 then new.fFloor else held.fFloor
  aMax := if writes mask 8 then new.aMax else held.aMax
  margin := if writes mask 10 then new.margin else held.margin
  spacing := if writes mask 12 then new.spacing else held.spacing
  cutHoldOff := if writes mask 13 then new.cutHoldOff else held.cutHoldOff
  debounce := if writes mask 14 then new.debounce else held.debounce

/-- An upper and a lower value with the upper kept above the lower, within a greatest value: the pair of one relational
correction (R71). -/
def keepAbove (top upper lower : Nat) : Nat × Nat :=
  if lower < upper then (upper, lower)
  else if top < lower + 1 then (top, top - 1)
  else (lower + 1, lower)

/-- The two relational corrections (R71). -/
def Budget.corrected (b : Budget) : Budget :=
  let f := keepAbove 1000 b.fFull b.fFloor
  let v := keepAbove 32767 b.vOk b.vCut
  { b with fFull := f.1, fFloor := f.2, vOk := v.1, vCut := v.2 }

/-- A budget profile taken whole (R72): it becomes the held profile, and a held A above the new A_max becomes it. -/
def State.takeBudget (b : Budget) (s : State) : State :=
  { s with budget := b, engine := { s.engine with allowance := min s.engine.allowance (b.aMax * 10) } }

/-- A commit of the budget profile (R70): corrected and taken while SETUP is asserted; refused while it is released if a
written field differs. -/
def State.commitBudget (mask : Option Wide) (w : BudgetWords) (s : State) : State :=
  let p := (budgetOfWords w).proposed mask s.budget
  if s.setup.level then s.takeBudget p.corrected else s.refuseIf (decide (p ≠ s.budget))

/-! ## Rest table (R60) -/

/-- The proposed rest table: point i has its voltage at item 4i and its fraction at item 4i + 2 (R60, R184). -/
def proposedRest (mask : Option Wide) (new held : Vector Point 8) : Vector Point 8 :=
  Vector.ofFn fun i =>
    ⟨if writes mask (4 * i.val) then new[i].voltage else held[i].voltage,
     if writes mask (4 * i.val + 2) then new[i].fraction else held[i].fraction⟩

/-- One point stands above the one before it: its voltage is greater and its fraction not less (R60). -/
def Point.above (b a : Point) : Bool := decide (a.voltage < b.voltage) && decide (a.fraction ≤ b.fraction)

/-- Voltages strictly ascending and fractions non-decreasing from point 0 to point 7 (R60). -/
def restOrdered (t : Vector Point 8) : Bool :=
  t[1].above t[0] && t[2].above t[1] && t[3].above t[2] && t[4].above t[3] && t[5].above t[4] && t[6].above t[5]
    && t[7].above t[6]

/-- The points of written words, clamped (R60). -/
def restOfWords (w : Vector PointWords 8) : Vector Point 8 := Vector.ofFn fun i => pointOfWords w[i]

/-- A commit of the rest table: taken whole or refused whole (R60). -/
def State.commitRest (mask : Option Wide) (w : Vector PointWords 8) (s : State) : State :=
  let p := proposedRest mask (restOfWords w) s.rest
  if s.setup.level then (if restOrdered p then { s with rest := p } else s.refuse)
  else s.refuseIf (decide (p ≠ s.rest))

end Sys2Proof.Machine
end

