-- ==== Sys2Proof/Machine/ProfileStore.lean ====
section
/-! DEFINITION. The stored image: its content and checksum (R188), the save image (R190), the factory image (R189) and the
checks of stage 2 (R194). -/

namespace Sys2Proof.Machine

/-! ## Content and checksum (R188) -/

/-- The 284 content bytes of an image. Their order carries no behaviour (R188, log 24). -/
def imageContent (w : StoreWords) : List Byte :=
  meterBytes w.meter ++ budgetBytes w.budget ++ w.rest.toList.flatMap pointBytes
    ++ w.channels.toList.flatMap channelBytes

/-- The sum of the content bytes. -/
def contentSum (w : StoreWords) : Nat := ((imageContent w).map BitVec.toNat).sum

/-- The two's complement, in 16 bits, of the content sum (R188). -/
def checksumOf (w : StoreWords) : Half := -(BitVec.ofNat 16 (contentSum w))

/-- The checksum test: the sum of content and checksum is 0 modulo 65,536 (R188). -/
def passesChecksum (w : StoreWords) : Bool := (contentSum w + w.checksum.toNat) % 65536 == 0

/-! ## Forming an image (R188 to R190) -/

/-- An image with its checksum. -/
def sealImage (w : StoreWords) : StoreWords := { w with checksum := checksumOf w }

/-- The save image: every profile field and the stored fields of every channel as held (R188, R190). -/
def State.saveImage (s : State) : StoreWords :=
  sealImage
    { meter := meterWords s.meter
      budget := budgetWords s.budget
      rest := Vector.ofFn fun i => pointWords s.rest[i]
      channels := Vector.ofFn fun n => channelWords (s.load n)
      checksum := 0 }

/-- The factory image: the factory profiles, and twelve channels not enrolled with every field at its default (R189). -/
def factoryImage : StoreWords :=
  sealImage
    { meter := meterWords {}
      budget := budgetWords {}
      rest := Vector.ofFn fun i => pointWords factoryRest[i]
      channels := Vector.ofFn fun _ => channelWords {}
      checksum := 0 }

/-! ## The checks of stage 2 (R194) -/

/-- Every meter field lies in its range (R41, R59): the clamps leave it as it is. -/
def meterGood (w : MeterWords) : Bool := meterWords (meterOfWords w) == w

/-- Every budget field lies in its range, and the two relations hold (R69, R71, R194). -/
def budgetGood (w : BudgetWords) : Bool :=
  budgetWords (budgetOfWords w) == w && decide (w.fFloor < w.fFull) && decide (w.vCut < w.vOk)

/-- Every point lies in its ranges, and the table is ordered (R60, R194). -/
def restGood (w : Vector PointWords 8) : Bool :=
  (w.toList.all fun p => pointWords (pointOfWords p) == p) && restOrdered (restOfWords w)

/-- Every stored field of a channel lies in its range, learned draw 0 excluded, and every code names a value (R4, R183,
R194). -/
def channelGood (w : ChannelWords) : Bool :=
  (flagOfCode w.enrolled).isSome
  && clampClass w.cls == w.cls.toNat
  && clampDeclared w.declaredDraw == w.declaredDraw.toNat
  && w.learnedDraw != 0
  && clampSettle w.settleTime == w.settleTime.toNat
  && (switchModeOfCode w.switchMode).isSome
  && (holdLineOfCode w.holdLine).isSome
  && clampMinTime w.minOn == w.minOn.toNat
  && clampMinTime w.minOff == w.minOff.toNat
  && clampHoldLimit w.holdLimit == w.holdLimit.toNat
  && clampRetryLimit w.retryLimit == w.retryLimit.toNat
  && clampRetryBase w.retryBase == w.retryBase.toNat
  && (restartPolicyOfCode w.restartPolicy).isSome

/-- The image is good (R194). -/
def imageGood (w : StoreWords) : Bool :=
  passesChecksum w && meterGood w.meter && budgetGood w.budget && restGood w.rest && w.channels.toList.all channelGood

/-- The image that stage 2 uses: the stored one if good, else the factory image (R189, R194). -/
def usedImage (w : StoreWords) : StoreWords := if imageGood w then w else factoryImage

/-- What a loss of power leaves in the store (R191): whatever the save had erased or programmed, an image that fails the
checks, before the checksum is programmed; the whole image during the read-back. A left image that passes the checks is
none that R191 allows, and counts as an erased store (log 12). -/
def storeAfterLoss (saving : Option StoreWords) (held : StoreWords) (cut : SaveCut) : StoreWords :=
  match saving, cut with
  | none, _ => held
  | some _, .beforeChecksum left => if imageGood left then erasedStore else left
  | some image, .duringReadBack => image

end Sys2Proof.Machine
end

