-- ==== Sys2Proof/Machine/StartUp.lean ====
section
/-! DEFINITION. Start-up: power-on, the stages, the beginning of a restart, and the loss of power (R191 to R196). -/

namespace Sys2Proof.Machine

/-! ## Power -/

/-- The 7-bit address: 5Ch plus the two-bit value of the straps ADS1 and ADS0 (R167). -/
def addressOf (ads1 ads0 : Bool) : BitVec 7 := 0x5C + (if ads1 then 2 else 0) + (if ads0 then 1 else 0)

/-- POWER_ON (R193): every block takes its power-on values, the straps are read, and start-up begins in LOADING with stage 1
taken. The stored image keeps its content (R187). -/
def execPowerOn (ads1 ads0 : Bool) (s : State) : Result :=
  .next (State.poweredOn (addressOf ads1 ads0) s.store.image s.pending)

/-- LOSS_OF_POWER (R191): it ends a save in flight and all held state until the next power-on. The held state then stands at
its power-on values, DESIGN CHOICE (log 11). -/
def execLossOfPower (cut : SaveCut) (s : State) : Result :=
  whenPowered s { State.poweredOn s.port.address (storeAfterLoss s.store.saving s.store.image cut) s.pending with
    powered := false }

/-! ## Stage 1 (R193) -/

/-- A record at stage 1 of a restart (R193, R142, R157, R158): an enrolled record becomes IDLE with request OFF, no reason, no
marks and retries used 0, every timer and window of it ends, and its other fields stay. -/
def Load.stage1 (r : Load) : Load :=
  if r.enrolled then
    { r with
      state := .idle
      request := false
      reason := .none
      shed := false
      waitHold := false
      waitMinOn := false
      retriesUsed := 0
      settleTimer := 0
      holdTimer := 0
      retryTimer := none
      cleanRun := 0
      requestStamp := none
      startStamp := none
      window := .closed
      blanking := 0
      diagRun := 0 }
  else r

/-- The Record Port at the beginning of a restart: its power-on values, but for the flags, the enables and the address, which
are kept (R182, R193). -/
def Port.restarted (p : Port) : Port :=
  { Port.atPowerOn p.address with flags := p.flags, enables := p.enables }

/-- The beginning of a restart (R192, R193): the start-up state becomes LOADING, the restart-pending mark clears, and stage 1
is taken. The timebase, Battery Sense, the Reserve Estimator and the stored image are kept (R196); the spacing counter, the
cut hold-off timer and the sequence counter stand until stage 3 sets them (R104, R106, log 26). -/
def State.beginRestart (s : State) : State :=
  { s.mapLoads fun _ r => r.stage1 with
    engine := { s.engine with allowance := 0, level := .ample, runList := [], standbyList := [] }
    switches := Vector.replicate 12 .fresh
    holds := Vector.replicate 4 .released
    forceOff := .released
    setup := .released
    port := s.port.restarted
    store := { s.store with restartPending := false }
    startup := ⟨false, 0, none⟩ }

/-! ## Stage 2 (R194) -/

/-- The line tick of start-up at which stage 2 is taken (R193). -/
def stage2Tick : Nat := 20

/-- The line tick of start-up at which stage 3 is taken (R193). -/
def stage3Tick : Nat := 25

/-- Stage 2 (R194), in its order: the flags are cleared and the enables set; STORE_FAULT is set for a bad image or the carry;
the profiles become the held profiles, as a commit with SETUP asserted; the channel part is kept. -/
def State.stage2 (s : State) : State :=
  let bad := !imageGood s.store.image
  let image := usedImage s.store.image
  let t := { s with port := { s.port with flags := 0, enables := startUpEnables } }
  let t := if bad || s.store.failedCarry then t.raise .storeFault else t
  let t := { t with store := { t.store with failedCarry := false } }
  let t := (t.takeMeter (meterOfWords image.meter)).takeBudget (budgetOfWords image.budget).corrected
  { t with rest := restOfWords image.rest, startup := { t.startup with kept := some image.channels } }

/-- Stage 2 is due: LOADING, from the 20th line tick of start-up, and not yet taken (R193, log 30). -/
def State.stage2Due (s : State) : Bool :=
  !s.startup.ready && decide (stage2Tick ≤ s.startup.ticks) && s.startup.kept.isNone

/-- STARTUP_STAGE_2 (R194). -/
def execStartupStage2 (s : State) : Result := whenPowered s (if s.stage2Due then s.stage2 else s)

/-! ## Stage 3 (R25, R104, R195) -/

/-- A record rebuilt from the image (R25): VACANT with its defaults if not enrolled; else IDLE with the stored fields, learn
enable yes, and its request from the switch in FOLLOW mode and from the restart policy in any other. -/
def Load.rebuilt (w : ChannelWords) (pressed : Bool) : Load :=
  if w.enrolled = 0x01 then
    let mode := (switchModeOfCode w.switchMode).getD .none
    let policy := (restartPolicyOfCode w.restartPolicy).getD .startOff
    { state := .idle
      cls := w.cls.toNat
      request := if mode = .follow then pressed else decide (policy = .startOn)
      declaredDraw := w.declaredDraw.toNat
      learnedDraw := drawOfWord w.learnedDraw
      settleTime := w.settleTime.toNat
      switchMode := mode
      holdLine := (holdLineOfCode w.holdLine).getD none
      minOn := w.minOn.toNat
      minOff := w.minOff.toNat
      holdLimit := w.holdLimit.toNat
      retryLimit := w.retryLimit.toNat
      retryBase := w.retryBase.toNat
      restartPolicy := policy }
  else {}

/-- One record of the list rebuild: an enrolled record whose request is ON receives a request stamp and enters STANDBY
(R104). -/
def State.rebuildEntry (n : Channel) (s : State) : State :=
  if (s.load n).request then
    ((s.modify n fun r => { r with requestStamp := some s.engine.seq }).stampIssued).enterStandby n
  else s

/-- The list rebuild of stage 3 (R104): the counter is 0, requested records enter STANDBY in channel order, and the eligible
class 0 records are started. -/
def State.rebuildLists (s : State) : State :=
  (channels.foldl (fun (t : State) n => t.rebuildEntry n)
    { s with engine := { s.engine with seq := 0, exhausted := false, runList := [], standbyList := [] } }).essentialSweep

/-- Stage 3 (R195): the Load Table is rebuilt from the channel part, then the lists; the spacing counter is set to 255 and the
cut hold-off timer to 0, and the part becomes READY. -/
def State.stage3 (kept : Vector ChannelWords 12) (s : State) : State :=
  let t := { s with loads := Vector.ofFn fun n => Load.rebuilt kept[n] s.switches[n].pressed }.rebuildLists
  { t with
    engine := { t.engine with spacing := 255, holdOff := 0 }
    startup := ⟨true, t.startup.ticks, none⟩ }.sweepWindows

/-- STARTUP_STAGE_3 (R195): due in LOADING, from the 25th line tick of start-up, once stage 2 has kept a channel part. -/
def execStartupStage3 (s : State) : Result :=
  whenPowered s
    (match s.startup.kept with
      | some kept => if !s.startup.ready && decide (stage3Tick ≤ s.startup.ticks) then s.stage3 kept else s
      | none => s)

/-! ## The save completion (R191, R192) -/

/-- The save completion: the store holds what was programmed; a read-back that differs from the save image sets STORE_FAULT;
the store goes idle; and a pending restart begins, carrying a failure to its stage 2. -/
def State.completeSave (image programmed : StoreWords) (s : State) : State :=
  let failed := decide (programmed ≠ image)
  let t := { s with store := { s.store with image := programmed, saving := none } }
  let t := if failed then t.raise .storeFault else t
  if s.store.restartPending then
    { t with store := { t.store with failedCarry := failed || t.store.failedCarry } }.beginRestart
  else t

/-- SAVE_COMPLETION (R191): there is none while no save is in flight. -/
def execSaveCompletion (programmed : StoreWords) (s : State) : Result :=
  whenPowered s
    (match s.store.saving with
      | some image => s.completeSave image programmed
      | none => s)

end Sys2Proof.Machine
end

