-- ==== Sys2Proof/WellFormed.lean ====
section
/-! DEFINITION. The commands that the spec lets be formed: every operand is bounded by its type but for the bytes that a
partial write leaves staged (R171, R172). -/

namespace Sys2Proof

/-- The bytes that a transaction leaves staged: 1 byte at least and fewer than the record length (R172), of a record that the
space has (R169), in a space that stages its bytes, which LISTS does not (R171). -/
def stagedWell (space : Space) (index : Nat) (data : List Byte) : Bool :=
  space != .lists && decide (index < space.records) && decide (0 < data.length) && decide (data.length < space.bytes)

/-- The command is one that the spec lets be formed. -/
def Instr.wellFormed : Instr → Bool
  | .partialWrite space index data => stagedWell space index data
  | .powerOn _ _ => true
  | .startupStage2 => true
  | .startupStage3 => true
  | .pulse _ => true
  | .sampleTick _ => true
  | .quietExpiry => true
  | .fullSync => true
  | .restReAnchor => true
  | .evaluation => true
  | .dwellIncrement => true
  | .settleEnd _ => true
  | .minOffExpiry => true
  | .holdLimitExpiry _ => true
  | .minOnReached _ => true
  | .retryExpiry _ => true
  | .cleanRun _ => true
  | .stableLevelChange _ => true
  | .setupLevelChange => true
  | .holdAssertion _ => true
  | .holdRelease _ => true
  | .forceOffAssertion => true
  | .forceOffRelease => true
  | .trip _ => true
  | .pointerSet _ _ _ => true
  | .readTransaction _ _ => true
  | .statusSnapshot => true
  | .loadCommit _ _ => true
  | .meterProfileCommit _ => true
  | .budgetProfileCommit _ => true
  | .restTableCommit _ => true
  | .statusCommit _ => true
  | .listsWrite _ _ => true
  | .clearFault _ => true
  | .forgetDraw _ => true
  | .setReserve _ => true
  | .clearAnchor _ => true
  | .saveProfile _ => true
  | .restart _ => true
  | .setChangeMask _ => true
  | .saveCompletion _ => true
  | .captureTick _ => true
  | .lineTick _ => true
  | .lossOfPower _ => true

end Sys2Proof
end

