-- ==== Sys2Proof/Machine/RecordPort.lean ====
section
/-! DEFINITION. The Record Port: pointer, snapshots, reads, partial writes and the commits of records (11_the_record_port.md).
A commit's command names its record: the addressing that its own transaction made is part of it (log 14). -/

namespace Sys2Proof.Machine

/-! ## What a record reads as (R23, R105, R177, R183 to R186) -/

/-- The state timer remaining view (R23). -/
def Load.timerView (r : Load) : Nat :=
  match r.state with
  | .starting => r.settleTimer
  | .deferred =>
    max (if r.waitHold then r.holdTimer else 0) (if r.waitMinOn && decide (r.dwell < r.minOn) then r.minOn - r.dwell else 0)
  | .tripped => r.retryTimer.getD 0
  | .vacant | .idle | .standby | .running | .locked => 0

/-- The marks byte (R20, R183). -/
def Load.marksByte (r : Load) : Byte :=
  (if r.shed then 0x01 else 0) ||| (if r.window.isOpen then 0x02 else 0) ||| (if r.waitHold then 0x04 else 0)
    ||| (if r.waitMinOn then 0x08 else 0)

/-- The 28 bytes of a load record (R183). -/
def Load.bytes (r : Load) : List Byte :=
  [loadStateCode r.state, flagCode r.enrolled, BitVec.ofNat 8 r.cls, flagCode r.request]
    ++ halfBytes (BitVec.ofNat 16 r.declaredDraw) ++ halfBytes (drawWord r.learnedDraw)
    ++ [BitVec.ofNat 8 r.settleTime, switchModeCode r.switchMode, holdLineCode r.holdLine, flagCode r.learnEnable]
    ++ halfBytes (BitVec.ofNat 16 r.minOn) ++ halfBytes (BitVec.ofNat 16 r.minOff)
    ++ halfBytes (BitVec.ofNat 16 r.holdLimit)
    ++ [BitVec.ofNat 8 r.retryLimit, BitVec.ofNat 8 r.retryBase, restartPolicyCode r.restartPolicy,
        BitVec.ofNat 8 r.retriesUsed, reasonCode r.reason, r.marksByte]
    ++ halfBytes (BitVec.ofNat 16 r.dwell) ++ halfBytes (BitVec.ofNat 16 r.timerView)

/-- The start-up and store byte (R185); the bits that R185 does not name read 0 (DESIGN CHOICE, log 37). -/
def State.startUpByte (s : State) : Byte :=
  (if s.startup.ready then 0x01 else 0) ||| (if s.store.saving.isSome then 0x02 else 0)
    ||| (if s.store.restartPending then 0x04 else 0)

/-- The status marks byte (R185); the bits that R185 does not name read 0 (DESIGN CHOICE, log 37). -/
def State.marksByte (s : State) : Byte :=
  (if s.port.partialMark then 0x01 else 0) ||| (if s.port.refusedMark then 0x02 else 0)

/-- The line states byte (R185); the bits that R185 does not name read 0 (DESIGN CHOICE, log 37). -/
def State.linesByte (s : State) : Byte :=
  (if s.setup.level then 0x01 else 0) ||| (if s.forceOff.level then 0x02 else 0)
    ||| (if s.holds[0].level then 0x04 else 0) ||| (if s.holds[1].level then 0x08 else 0)
    ||| (if s.holds[2].level then 0x10 else 0) ||| (if s.holds[3].level then 0x20 else 0)

/-- The switch levels (R185): bit n for SWn, 1 for pressed; bits 12 to 15, which R185 does not name, read 0 (DESIGN CHOICE,
log 37). -/
def State.switchWord (s : State) : Half :=
  channels.foldl (fun w n => if s.switches[n].pressed then w ||| (1#16 <<< n.val) else w) 0

/-- The 40 bytes of the STATUS record (R177, R185). -/
def State.statusBytes (s : State) : List Byte :=
  [levelCode s.engine.level, s.startUpByte, flagCode s.sense.pub.valid, s.marksByte]
    ++ wideBytes (BitVec.ofNat 32 s.engine.allowance) ++ wideBytes (BitVec.ofInt 32 s.sense.pub.current)
    ++ wideBytes (BitVec.ofInt 32 s.sense.pub.filtered)
    ++ halfBytes (BitVec.ofNat 16 s.sense.pub.sensed) ++ halfBytes (BitVec.ofNat 16 s.sense.pub.comp)
    ++ halfBytes (match s.fraction with | some f => BitVec.ofNat 16 f | none => 0xFFFF)
    ++ wideBytes (BitVec.ofNat 32 (s.reserve.q.getD 0))
    ++ [s.linesByte] ++ halfBytes s.switchWord
    ++ [BitVec.ofNat 8 s.engine.spacing, BitVec.ofNat 8 s.engine.holdOff, s.port.flags, s.port.enables]
    ++ List.replicate 7 0

/-- The 13 bytes of a LISTS record: the count, the channels in list order, and FFh in every entry past the count (R105,
R186). -/
def listBytes (l : List Channel) : List Byte :=
  BitVec.ofNat 8 l.length :: ((l.map fun n => BitVec.ofNat 8 n.val) ++ List.replicate (12 - l.length) 0xFF)

/-- The 32 bytes of a PROFILE record; bytes past its last field read 00h (R168, R184). -/
def State.profileBytes (s : State) (index : Nat) : List Byte :=
  match index with
  | 0 => meterBytes (meterWords s.meter) ++ List.replicate 11 0
  | 1 => budgetBytes (budgetWords s.budget) ++ List.replicate 17 0
  | _ => s.rest.toList.flatMap fun p => pointBytes (pointWords p)

/-- The 4 bytes of the last-command record, the same at every index (R168, R186). -/
def LastCommand.bytes (l : LastCommand) : List Byte := [l.command, l.channel, l.result, l.count]

/-- The bytes of a record at this moment (R168). -/
def State.recordBytes (s : State) (space : Space) (index : Nat) : List Byte :=
  match space with
  | .load => (s.loads[index]?.getD {}).bytes
  | .profile => s.profileBytes index
  | .status => s.statusBytes
  | .command => s.port.last.bytes
  | .lists => listBytes (if index = 0 then s.engine.runList else s.engine.standbyList)

/-! ## The pointer (R169, R170) -/

/-- A pointer set disarms an armed change mask when the new space is STATUS, COMMAND or LISTS (R169, R174). -/
def disarms : Space → Bool
  | .load => false
  | .profile => false
  | .status => true
  | .command => true
  | .lists => true

/-- The pointer is set to a record, offset 0: a held snapshot is discarded, and the mask is disarmed for some spaces
(R169). -/
def Port.pointAt (space : Space) (index : Nat) (p : Port) : Port :=
  { p with
    space := space
    index := index
    offset := 0
    snapshot := none
    mask := if disarms space then none else p.mask }

/-- The index after the last byte of a record: the next one, wrapping to 0 after the last (R170). -/
def nextIndex (space : Space) (index : Nat) : Nat := if index + 1 < space.records then index + 1 else 0

/-- POINTER_SET (R169): taken when the address is the port's, the space byte names a space and the index byte lies within it.
Otherwise a byte is not acknowledged, and nothing changes (R167). -/
def execPointerSet (address : BitVec 7) (space index : Byte) (s : State) : Result :=
  whenAnswering s
    (match spaceOfCode space with
      | some sp =>
        if address = s.port.address ∧ index.toNat < sp.records then { s with port := s.port.pointAt sp index.toNat } else s
      | none => s)

/-! ## Reads (R170, R173, R174) -/

/-- The snapshot of the record at the pointer is taken at its offset 0. That of STATUS clears PARTIAL and REFUSED after it has
taken their values; no other changes any state of the part (R173, R178). -/
def State.takeSnapshot (s : State) : State :=
  if s.port.offset = 0 then
    { s with port := { s.port with
        snapshot := some (s.recordBytes s.port.space s.port.index)
        partialMark := s.port.partialMark && s.port.space != .status
        refusedMark := s.port.refusedMark && s.port.space != .status } }
  else s

/-- The pointer moves on past a byte read; after the record's last byte the snapshot is discarded (R170, R173). -/
def Port.advance (p : Port) : Port :=
  if p.offset + 1 < p.space.bytes then { p with offset := p.offset + 1 }
  else { p with offset := 0, index := nextIndex p.space p.index, snapshot := none }

/-- One byte is read: the snapshot is taken at offset 0, the byte at the offset is sent from it, and the pointer moves on. -/
def State.readByte (s : State) : State :=
  let t := s.takeSnapshot
  let b := (t.port.snapshot.getD []).getD t.port.offset 0
  { t with port := { t.port with sent := t.port.sent ++ [b] }.advance }

/-- A number of bytes are read. -/
def State.readBytes : Nat → State → State
  | 0, s => s
  | k + 1, s => s.readByte.readBytes k

/-- READ_TRANSACTION (R174): the address byte disarms an armed change mask; then the bytes are read from the pointer as it
stands (R170). -/
def execReadTransaction (address : BitVec 7) (count : Nat) (s : State) : Result :=
  whenAnswering s
    (if address = s.port.address then
      ({ s with port := { s.port with mask := none, sent := [] } }).readBytes count
    else s)

/-- STATUS_SNAPSHOT (R173): offset 0 of STATUS is read, which takes the snapshot and then clears the marks. The read
transaction that leads to it has set the pointer there and disarmed the mask (R169, R174, log 14). -/
def execStatusSnapshot (s : State) : Result :=
  whenAnswering s ({ s with port := { s.port.pointAt .status 0 with sent := [] } }).readByte

/-! ## Writes (R171, R172) -/

/-- The addressing of a commit: none is needed where the pointer already stands at offset 0 of the record, as it does after
a commit of the record before it in the same transaction; any other commit's transaction sets the pointer first (R169, R170,
log 14). -/
def Port.reach (space : Space) (index : Nat) (p : Port) : Port :=
  if p.space = space ∧ p.index = index ∧ p.offset = 0 then p else p.pointAt space index

/-- The port after a whole record was committed: the staging buffer empties and the pointer advances to the next record
(R171). -/
def Port.committed (space : Space) (index : Nat) (p : Port) : Port :=
  { p with space := space, index := nextIndex space index, offset := 0, staging := [] }

/-- A commit of a record: its effect, then the port moves on. -/
def State.commitAt (space : Space) (index : Nat) (effect : State → State) (s : State) : State :=
  let t := effect { s with port := s.port.reach space index }
  { t with port := t.port.committed space index }

/-- A commit of a LOAD or PROFILE record: an armed mask applies to it and is disarmed at its end (R174). -/
def State.maskedCommit (space : Space) (index : Nat) (effect : Option Wide → State → State) (s : State) : State :=
  let t := s.commitAt space index (effect s.port.mask)
  { t with port := { t.port with mask := none } }

/-- PARTIAL_WRITE (R172): the staged bytes are discarded, the pointer stays on the record with offset 0, PARTIAL is set and
the mask is disarmed. Bytes of LISTS are never staged, and no byte or a whole record leaves nothing partial (R171). -/
def execPartialWrite (space : Space) (index : Nat) (data : List Byte) (s : State) : Result :=
  whenAnswering s
    (if stagedWell space index data then
      { s with port := { s.port.pointAt space index with staging := [], mask := none, partialMark := true } }
    else s)

/-- LOAD_COMMIT (R12). -/
def execLoadCommit (n : Channel) (data : Vector Byte 28) (s : State) : Result :=
  whenAnswering s (s.maskedCommit .load n.val fun mask t => t.commitLoad n mask (loadWordsOf data))

/-- METER_PROFILE_COMMIT (R41); bytes 21 to 31 are ignored (R171). -/
def execMeterProfileCommit (data : Vector Byte 32) (s : State) : Result :=
  whenAnswering s (s.maskedCommit .profile 0 fun mask t => t.commitMeter mask (meterWordsOf data))

/-- BUDGET_PROFILE_COMMIT (R70); bytes 15 to 31 are ignored (R171). -/
def execBudgetProfileCommit (data : Vector Byte 32) (s : State) : Result :=
  whenAnswering s (s.maskedCommit .profile 1 fun mask t => t.commitBudget mask (budgetWordsOf data))

/-- REST_TABLE_COMMIT (R60). -/
def execRestTableCommit (data : Vector Byte 32) (s : State) : Result :=
  whenAnswering s (s.maskedCommit .profile 2 fun mask t => t.commitRest mask (restWordsOf data))

/-- What a commit of STATUS does (R179): flags written 1 are cleared, and byte 32 becomes the enables. -/
def State.commitStatus (clear enables : Byte) (s : State) : State :=
  { s with port := { s.port with flags := s.port.flags &&& ~~~clear, enables := enables } }

/-- STATUS_COMMIT (R179); the other 38 bytes are ignored. -/
def execStatusCommit (data : Vector Byte 40) (s : State) : Result :=
  whenAnswering s (s.commitAt .status 0 (State.commitStatus data[31] data[32]))

/-- LISTS_WRITE (R171): the bytes are discarded; they advance the pointer over whole records, and the end of the transaction
inside a record returns the offset to 0 on the same index. -/
def execListsWrite (index : Fin 2) (data : List Byte) (s : State) : Result :=
  whenAnswering s { s with port := s.port.pointAt .lists ((index.val + data.length / Space.lists.bytes) % Space.lists.records) }

end Sys2Proof.Machine
end

