-- ==== Sys2Proof/Machine/Seconds.lean ====
section
/-! DEFINITION. What a second tick does beside the evaluation: the dwell increment, the countdowns and the checks. Each is a
command of its own, since the spec lets each be taken on either side of an evaluation (R99, R103, R109, R132, R135, R152,
R153, log 3), and is taken once at each second tick (R2, log 7). -/

namespace Sys2Proof.Machine

/-- The dwell of a record at a second tick: it counts while enrolled, and stays at 65,535 (R22). -/
def Load.dwellTick (r : Load) : Load :=
  if r.enrolled then { r with dwell := min (r.dwell + 1) 65535 } else r

/-- DWELL_INCREMENT (R22). -/
def execDwellIncrement (s : State) : Result :=
  whenPowered s (s.takeWork .dwell fun t => t.mapLoads fun _ r => r.dwellTick)

/-- The window at a settle end passes from settling to closing (R160). -/
def Window.settleEnded : Window → Window
  | .settling o => .closing o
  | w => w

/-- The settle countdown of a record at a second tick (R99): a timer that reaches 0 makes the record RUNNING, in its place
and with both stamps, and its clean-run count begins at 0 (R153). -/
def Load.settleTick (r : Load) : Load :=
  if r.state = .starting then
    if r.settleTimer ≤ 1 then
      { r with state := .running, settleTimer := 0, cleanRun := 0, window := r.window.settleEnded }
    else { r with settleTimer := r.settleTimer - 1 }
  else r

/-- SETTLE_END (R99). -/
def execSettleEnd (n : Channel) (s : State) : Result :=
  whenPowered s (s.takeWork (.settle n) (State.modify n Load.settleTick))

/-- MIN_OFF_EXPIRY (R103): every class 0 STANDBY record that is eligible is started. No such check is made in LOADING. -/
def execMinOffExpiry (s : State) : Result :=
  whenPowered s (s.takeWork .minOff fun t => if t.startup.ready then t.essentialSweep.sweepWindows else t)

/-- The hold-limit countdown of a record that waits on hold, at a second tick (R132). A timer that reaches 0 ends the hold
wait and sets HOLD_EXPIRED, and the record is cut if no wait is left (R134). -/
def State.holdLimitTick (n : Channel) (s : State) : State :=
  let r := s.load n
  if r.waitHold then
    if r.holdTimer ≤ 1 then ((s.raise .holdExpired).endHoldWait n).sweepWindows
    else s.modify n fun r => { r with holdTimer := r.holdTimer - 1 }
  else s

/-- HOLD_LIMIT_EXPIRY (R134). -/
def execHoldLimitExpiry (n : Channel) (s : State) : Result :=
  whenPowered s (s.takeWork (.holdLimit n) (State.holdLimitTick n))

/-- The min-on check of a record that waits on min-on, at a second tick: a dwell of at least min-on ends the wait, and the
record is cut if no wait is left (R135). -/
def State.minOnCheck (n : Channel) (s : State) : State :=
  let r := s.load n
  if r.waitMinOn && decide (r.minOn ≤ r.dwell) then (s.endMinOnWait n).sweepWindows else s

/-- MIN_ON_REACHED (R135). -/
def execMinOnReached (n : Channel) (s : State) : Result := whenPowered s (s.takeWork (.minOn n) (State.minOnCheck n))

/-- The retry of a TRIPPED record expires (R152): to STANDBY with its kept stamp and the essential check for a request ON,
and to IDLE for a request OFF. Retries used keeps its value. -/
def State.retryExpires (n : Channel) (s : State) : State :=
  if (s.load n).request then (s.enterStandby n).essentialCheck n else s.modify n Load.toIdle

/-- The retry countdown of a TRIPPED record at a second tick; a timer that reaches 0 expires (R152). -/
def State.retryTick (n : Channel) (s : State) : State :=
  let r := s.load n
  match r.state, r.retryTimer with
  | .tripped, some t =>
    if t ≤ 1 then (s.retryExpires n).sweepWindows else s.modify n fun r => { r with retryTimer := some (t - 1) }
  | _, _ => s

/-- RETRY_EXPIRY (R152). -/
def execRetryExpiry (n : Channel) (s : State) : Result := whenPowered s (s.takeWork (.retry n) (State.retryTick n))

/-- The clean-run count of a RUNNING record at a second tick: it stays at 300, and reaching 300 sets retries used to 0
(R153). -/
def Load.cleanRunTick (r : Load) : Load :=
  if r.state = .running then
    let count := min (r.cleanRun + 1) 300
    { r with cleanRun := count, retriesUsed := if r.cleanRun < 300 ∧ count = 300 then 0 else r.retriesUsed }
  else r

/-- CLEAN_RUN (R153). -/
def execCleanRun (n : Channel) (s : State) : Result :=
  whenPowered s (s.takeWork (.cleanRun n) (State.modify n Load.cleanRunTick))

end Sys2Proof.Machine
end

