-- ==== Sys2Proof/Machine/Sensing.lean ====
section
/-! DEFINITION. Battery Sense and the pulse and sample-tick sides of the Reserve Estimator and the Draw Learner
(02_battery_sense.md, R47 to R49, R51, R52, R55, R160 to R164). -/

namespace Sys2Proof.Machine

/-! ## Capture and pulses (R27 to R31) -/

/-- The capture counter wraps at 2^24 (R27). -/
def counterRange : Nat := 16777216

/-- (later − earlier) mod 2^24 (R30, R32). -/
def elapsed (later earlier : Nat) : Nat := (later + counterRange - earlier) % counterRange

/-- A capture tick: the counter increments first; then CQ is compared with the stored sample, low followed by high being a
rising edge, and becomes the stored sample (R27, R28). -/
def Sense.capture (cqHigh : Bool) (b : Sense) : Sense :=
  { b with
    counter := (b.counter + 1) % counterRange
    edge := !b.cq && cqHigh
    cq := cqHigh }

/-- DIR high is discharge, DIR low is charge (R29). -/
def directionOf (dirHigh : Bool) : Direction := if dirHigh then .discharge else .charge

/-- The new period, stamp and direction of a pulse (R30). -/
def Sense.takePulse (d : Direction) (b : Sense) : Sense :=
  { b with
    edge := false
    period := match b.stamp with
      | some t => if d = b.dir then some (elapsed b.counter t) else none
      | none => none
    stamp := some b.counter
    dir := d }

/-- A discharge pulse while anchored: Q becomes Q − W, or 0 if W exceeds Q (R48). -/
def Reserve.dischargePulse (m : Meter) (e : Reserve) : Reserve :=
  { e with q := e.q.map fun q => q - m.pulseWeight }

/-- A charge pulse while anchored: t = W × η + remainder is added in whole mAs, stopping at C with remainder 0 (R49). -/
def Reserve.chargePulse (m : Meter) (e : Reserve) : Reserve :=
  match e.q with
  | none => e
  | some q =>
    let t := m.pulseWeight * m.efficiency + e.remainder
    if q + t / 1000 < m.capacityMas then { e with q := some (q + t / 1000), remainder := t % 1000 }
    else { e with q := some m.capacityMas, remainder := 0 }

/-- A pulse counted into the reserve; while unanchored it changes nothing (R47). -/
def Reserve.takePulse (m : Meter) (d : Direction) (e : Reserve) : Reserve :=
  match d with
  | .discharge => e.dischargePulse m
  | .charge => e.chargePulse m

/-- A window compared with a pulse's direction: a different one cancels it (R164). -/
def Window.seePulse (d : Direction) (w : Window) : Window :=
  match w.opening with
  | none => w
  | some o => if o.dir = d then w else .closed

/-- CAPTURE_TICK (R27, R28). The timebase counts the tick, and the ticks that fall with it are due (R2). -/
def execCaptureTick (cqHigh : Bool) (s : State) : Result :=
  whenPowered s { s.tickCounted with sense := s.sense.capture cqHigh }

/-- The pulse of the edge that the capture tick just taken found, and its hand-off (R30, R31). -/
def State.takePulse (dirHigh : Bool) (s : State) : State :=
  let d := directionOf dirHigh
  { s with sense := s.sense.takePulse d, reserve := s.reserve.takePulse s.meter d }.mapLoads
    fun _ r => { r with window := r.window.seePulse d }

/-- PULSE (R30). Without an edge at the capture tick there is no pulse (R28, log 6). -/
def execPulse (dirHigh : Bool) (s : State) : Result :=
  whenPowered s (if s.sense.edge then s.takePulse dirHigh else s)

/-! ## The sample tick (R32 to R39) -/

/-- The quiet test: a stamp older than the quiet time is discarded with the period (R33). -/
def Sense.quietTest (m : Meter) (b : Sense) : Sense :=
  match b.stamp with
  | none => b
  | some t => if m.quietTime * 10000 < elapsed b.counter t then { b with stamp := none, period := none } else b

/-- E, the time since the last pulse, while a stamp is present (R32). -/
def Sense.sinceLast (b : Sense) : Nat :=
  match b.stamp with
  | none => 0
  | some t => elapsed b.counter t

/-- The magnitude M of the estimate for D, clamped to 500,000 mA (R34); a D of 0 does not come about (R28, R30), and its
magnitude is a free value (log 21). -/
def estimateMagnitude (weight d : Nat) : Nat :=
  min 500000 (if d = 0 then Config.unstatedEstimate weight else weight * 10000 / d)

/-- The current estimate I_s and its validity (R34). The first sample tick after power-on is no exception: where two pulses
have formed a period before it, its estimate is valid, although R43 takes it that no period can yet be present (DEDUCED,
log 36). -/
def Sense.estimate (m : Meter) (b : Sense) : Int × Bool :=
  match b.period with
  | none => (0, false)
  | some p =>
    let magnitude : Int := estimateMagnitude m.pulseWeight (max p b.sinceLast)
    (match b.dir with
      | .discharge => magnitude
      | .charge => -magnitude, true)

/-- The filter step: I_f + trunc((I_s − I_f) / 2^k) (R36). -/
def filterStep (k : Nat) (filtered current : Int) : Int := filtered + (current - filtered).tdiv (2 ^ k)

/-- V_comp: V_s + trunc(I_f × R_int / 1000), clamped to 0 to 32,767 mV (R38). -/
def compensate (resistance sensed : Nat) (filtered : Int) : Nat :=
  (max 0 (min 32767 ((sensed : Int) + (filtered * resistance).tdiv 1000))).toNat

/-- The set of a sample tick (R32, R34, R36 to R39). -/
def Sense.publish (m : Meter) (code : BitVec 12) (b : Sense) : Published :=
  let i := b.estimate m
  let f := filterStep m.filterShift b.pub.filtered i.1
  let v := code.toNat * 8
  ⟨i.1, i.2, f, v, compensate m.resistance v f⟩

/-- Battery Sense at a sample tick: the quiet test, then the set is formed and published (R32). -/
def Sense.sample (m : Meter) (code : BitVec 12) (b : Sense) : Sense :=
  let b := b.quietTest m
  { b with pub := b.publish m code }

/-! ## The reserve tests on the published set (R51, R52, R55) -/

/-- The full condition (R51). -/
def fullCondition (m : Meter) (p : Published) : Bool :=
  decide (m.fullVoltage ≤ p.sensed) && p.valid && decide (p.filtered ≤ 0) && decide (-p.filtered ≤ m.tailCurrent)

/-- The rest condition (R52). -/
def restCondition (m : Meter) (p : Published) : Bool := decide (p.filtered.natAbs ≤ m.restCurrent)

/-- A run counter's step at a sample tick: it counts toward the limit while the condition holds, is set to the limit at or
above it, and is 0 otherwise (R51, R52). -/
def runStep (holds : Bool) (limit run : Nat) : Nat :=
  if holds then (if run < limit then run + 1 else limit) else 0

/-- The step brings the counter to its limit. -/
def runCompletes (holds : Bool) (limit run : Nat) : Bool := holds && decide (run < limit) && run + 1 == limit

/-- The full limit in sample ticks (R51). -/
def Meter.fullLimit (m : Meter) : Nat := m.fullTime * 240

/-- The rest limit in sample ticks (R52). -/
def Meter.restLimit (m : Meter) : Nat := m.restTime * 240

/-- The full and rest tests on a published set (R51, R52). What they bring to its limit is due: the sync, or the re-anchor
unless a sync is carried out at the same sample tick (R55). -/
def Reserve.test (m : Meter) (p : Published) (e : Reserve) : Reserve :=
  let full := fullCondition m p
  let rest := restCondition m p
  { e with
    fullRun := runStep full m.fullLimit e.fullRun
    restRun := runStep rest m.restLimit e.restRun
    syncDue := runCompletes full m.fullLimit e.fullRun
    reanchorDue := runCompletes rest m.restLimit e.restRun && !runCompletes full m.fullLimit e.fullRun }

/-! ## The closing reading and the fold (R160 to R162) -/

/-- The fold of a sample s above 0 into a learned draw, rounded up and clamped (R162). -/
def fold (learned : Option Nat) (sample : Nat) : Nat :=
  clampTo 1 65534 (match learned with
    | none => (sample + 9) / 10
    | some l => (l * 10 + sample + 19) / 20)

/-- The closing reading of a window in its closing phase on a published set: the window closes, and a sample of two valid
readings above 0 is folded (R160, R161). -/
def Load.closeWindow (p : Published) (r : Load) : Load :=
  match r.window with
  | .closing o =>
    let sample := p.current - o.before
    { r with
      window := .closed
      learnedDraw := if o.valid && p.valid && decide (0 < sample) then some (fold r.learnedDraw sample.toNat)
        else r.learnedDraw }
  | _ => r

/-- A sample tick: Battery Sense publishes, the reserve tests run on the published set, and windows in their closing phase
take their closing reading (R32, R55, R160). -/
def State.sampleTick (code : BitVec 12) (s : State) : State :=
  let b := s.sense.sample s.meter code
  { s with sense := b, reserve := s.reserve.test s.meter b.pub }.mapLoads fun _ r => r.closeWindow b.pub

/-- SAMPLE_TICK (R32), once at each sample tick (R2). -/
def execSampleTick (code : BitVec 12) (s : State) : Result := whenPowered s (s.takeWork .sample (State.sampleTick code))

/-- QUIET_EXPIRY (R33): the quiet test of a sample tick, taken before the rest of that tick's work. The estimate of that
tick is then invalid, as SAMPLE_TICK forms it (R34, R39, log 5). -/
def execQuietExpiry (s : State) : Result :=
  whenPowered s (if .sample ∈ s.due then { s with sense := s.sense.quietTest s.meter } else s)

end Sys2Proof.Machine
end

