-- ==== Sys2Proof/Machine/Commands.lean ====
section
/-! DEFINITION. The COMMAND space: one meaning per command, each acting at its commit and returning one result, which the
last-command record takes (R56, R57, R154, R166, R174 to R176, R190, R192). -/

namespace Sys2Proof.Machine

/-- Command results (R175, R176). -/
inductive CommandResult where
  | done | badChannel | badState | busy | pending
  deriving DecidableEq, Repr

/-- The code of a result (R176). -/
def resultCode : CommandResult → Byte
  | .done => 0x01
  | .badChannel => 0x02
  | .badState => 0x03
  | .busy => 0x04
  | .pending => 0x05

/-- The channel that a channel argument names: none above 11 (R175). -/
def channelOf (a : Wide) : Option Channel := if h : a.toNat < 12 then some ⟨a.toNat, h⟩ else none

/-- The channel byte of the last-command record for a channel argument: FEh above 11 (R176). -/
def channelByte (a : Wide) : Byte := match channelOf a with | some n => BitVec.ofNat 8 n.val | none => 0xFE

/-- The last-command record is set at a command commit; the count wraps from 255 to 0 (R176). -/
def State.noteCommand (command channel : Byte) (result : CommandResult) (s : State) : State :=
  { s with port := { s.port with last := ⟨command, channel, resultCode result, s.port.last.count + 1⟩ } }

/-- The commit of command i: its effect, the last-command record, and the pointer on the next record (R171, R175). -/
def State.command (i : Nat) (channel : Byte) (effect : State → State × CommandResult) (s : State) : State :=
  s.commitAt .command i fun t =>
    let u := effect t
    u.1.noteCommand (BitVec.ofNat 8 i) channel u.2

/-- CLEAR_FAULT on a record (R154): LOCKED becomes IDLE, a TRIPPED record's retry expires at once, and either has retries
used 0. -/
def State.clearFault (n : Channel) (s : State) : State × CommandResult :=
  match (s.load n).state with
  | .locked => (s.modify n fun r => { r.toIdle with retriesUsed := 0 }, .done)
  | .tripped => (((s.modify n fun r => { r with retriesUsed := 0, retryTimer := none }).retryExpires n).sweepWindows, .done)
  | .vacant | .idle | .standby | .starting | .running | .deferred => (s, .badState)

/-- CLEAR_FAULT (R154). -/
def execClearFault (argument : Vector Byte 4) (s : State) : Result :=
  let a := argumentWord argument
  whenAnswering s (s.command 0 (channelByte a) fun t =>
    match channelOf a with
    | some n => t.clearFault n
    | none => (t, .badChannel))

/-- FORGET_DRAW on a record (R166). -/
def State.forgetDraw (n : Channel) (s : State) : State × CommandResult :=
  if (s.load n).enrolled then (s.modify n fun r => { r with learnedDraw := none }, .done) else (s, .badState)

/-- FORGET_DRAW (R166). -/
def execForgetDraw (argument : Vector Byte 4) (s : State) : Result :=
  let a := argumentWord argument
  whenAnswering s (s.command 1 (channelByte a) fun t =>
    match channelOf a with
    | some n => t.forgetDraw n
    | none => (t, .badChannel))

/-- SET_RESERVE (R56): Q becomes floor(p × C / 1000), anchored, with remainder 0; p above 1000 is taken as 1000. -/
def execSetReserve (argument : Vector Byte 4) (s : State) : Result :=
  whenAnswering s (s.command 2 0xFF fun t =>
    ({ t with reserve := { t.reserve with
        q := some (min (argumentWord argument).toNat 1000 * t.meter.capacityMas / 1000), remainder := 0 } }, .done))

/-- CLEAR_ANCHOR (R57): Q becomes absent, and the remainder and both run counters 0. -/
def execClearAnchor (_argument : Vector Byte 4) (s : State) : Result :=
  whenAnswering s (s.command 3 0xFF fun t => ({ t with reserve := Reserve.atPowerOn }, .done))

/-- SAVE_PROFILE (R190): the save image is formed and the save begins, or BUSY while one is in flight. -/
def State.saveProfile (s : State) : State × CommandResult :=
  match s.store.saving with
  | none => ({ s with store := { s.store with saving := some s.saveImage } }, .done)
  | some _ => (s, .busy)

/-- SAVE_PROFILE (R190). -/
def execSaveProfile (_argument : Vector Byte 4) (s : State) : Result :=
  whenAnswering s (s.command 4 0xFF State.saveProfile)

/-- RESTART (R192): it begins at the commit while the store is idle, and is marked pending while it is busy. The beginning
returns the last-command record and the pointer to their power-on values (R175, R182). -/
def execRestart (_argument : Vector Byte 4) (s : State) : Result :=
  whenAnswering s
    (match s.store.saving with
      | none => (s.command 5 0xFF fun t => (t, .done)).beginRestart
      | some _ => s.command 5 0xFF fun t => ({ t with store := { t.store with restartPending := true } }, .pending))

/-- SET_CHANGE_MASK (R174): the mask is armed with the set that the argument carries. -/
def execSetChangeMask (argument : Vector Byte 4) (s : State) : Result :=
  whenAnswering s
    (let t := s.command 6 0xFF fun t => (t, .done)
     { t with port := { t.port with mask := some (argumentWord argument) } })

end Sys2Proof.Machine
end

