-- ==== Sys2Proof/Machine/Evaluation.lean ====
section
/-! DEFINITION. The evaluation of the Budget Engine: the allowance (04_the_allowance.md), the shed order (R97) and the
stages E1 to E7 with the close (07_budget_evaluation.md). -/

namespace Sys2Proof.Machine

/-! ## E1: the allowance (R62 to R66) -/

/-- A ramp from 0 at and below lo to top at and above hi, rounded down between (R64, R65). -/
def ramp (top lo hi x : Nat) : Nat :=
  if hi ≤ x then top else if x ≤ lo then 0 else top * (x - lo) / (hi - lo)

/-- A_max in mA (R64, R69). -/
def Budget.aMaxMa (b : Budget) : Nat := b.aMax * 10

/-- H in mA (R68, R69). -/
def Budget.marginMa (b : Budget) : Nat := b.margin * 10

/-- The allowance from the reserve (R64). -/
def Budget.fromReserve (b : Budget) (f : Nat) : Nat := ramp b.aMaxMa b.fFloor b.fFull f

/-- The allowance from the voltage (R65). -/
def Budget.fromVoltage (b : Budget) (comp : Nat) : Nat := ramp b.aMaxMa b.vCut b.vOk comp

/-- The combined allowance: the smaller of the two while anchored, and that from the voltage alone otherwise (R66). -/
def Budget.combined (b : Budget) (f : Option Nat) (comp : Nat) : Nat :=
  match f with
  | some f => min (b.fromReserve f) (b.fromVoltage comp)
  | none => b.fromVoltage comp

/-- E1: A is formed from the latest published set, the reserve and the profile of this moment (R63). -/
def State.formAllowance (s : State) : State :=
  { s with engine := { s.engine with allowance := s.budget.combined s.fraction s.sense.pub.comp } }

/-! ## E3: the deficit walk (R97, R111 to R115) -/

/-- A walk candidate: class 1 to 7, in STARTING or RUNNING (R97, R115). -/
def Load.walkable (r : Load) : Bool := (r.state == .starting || r.state == .running) && r.cls != 0

/-- The shed order: class descending, and within one class start stamp descending (R97). -/
def State.shedBefore (s : State) (a b : Channel) : Bool :=
  let ra := s.load a
  let rb := s.load b
  decide (rb.cls < ra.cls) || (ra.cls == rb.cls && decide (rb.startStamp.getD 0 < ra.startStamp.getD 0))

/-- The shed order, derived from the Run List (R97). -/
def State.shedOrder (s : State) : List Channel :=
  (s.engine.runList.filter fun n => (s.load n).walkable).foldr (insertBy s.shedBefore) []

/-- A record of any class is STARTING (R111, R118). -/
def State.anyStarting (s : State) : Bool := channels.any fun n => (s.load n).state == .starting

/-- A record is DEFERRED with cause BUDGET (R118, R125). -/
def State.anyBudgetDeferral (s : State) : Bool :=
  channels.any fun n => (s.load n).state == .deferred && (s.load n).reason == .deferred .budget

/-- The state of an evaluation under way: the part, the projected draw P (R110), and whether this evaluation has made a
budget cut (R118). -/
structure Walk where
  part : State
  draw : Int
  cut : Bool
  deriving DecidableEq, Repr

/-- The cut test: P is greater than A (R67). -/
def Walk.deficit (w : Walk) : Bool := decide ((w.part.engine.allowance : Int) < w.draw)

/-- The walk is taken (R111). -/
def Walk.taken (w : Walk) : Bool :=
  w.deficit && (w.part.engine.allowance == 0 || (!w.part.anyStarting && w.part.engine.holdOff == 0))

/-- A cut of a candidate is possible now (R113). -/
def State.cutPossible (s : State) (r : Load) : Bool :=
  !s.held r.holdLine && (decide (r.minOn ≤ r.dwell) || s.engine.allowance == 0)

/-- The deferral of a candidate (R114): a hold wait if its line is asserted, and a min-on wait if dwell is below min-on,
which cannot arise at A = 0. -/
def State.deferBudget (n : Channel) (s : State) : State :=
  let r := s.load n
  s.modify n (Load.deferWith .budget (s.held r.holdLine) (decide (r.dwell < r.minOn) && s.engine.allowance != 0))

/-- A budget cut within an evaluation: P is lowered by the effective draw at that moment (R110). -/
def Walk.makeCut (n : Channel) (w : Walk) : Walk :=
  ⟨w.part.budgetCut n, w.draw - (w.part.load n).drawMa, true⟩

/-- One candidate of the walk (R112): left alone once P is at most A, cut now if possible, deferred otherwise. -/
def Walk.candidate (w : Walk) (n : Channel) : Walk :=
  if w.deficit && (w.part.load n).walkable then
    if w.part.cutPossible (w.part.load n) then w.makeCut n else { w with part := w.part.deferBudget n }
  else w

/-- E3 (R111, R112): the shed order is derived at the start of the walk and stays fixed within it (R97). -/
def Walk.deficitWalk (w : Walk) : Walk :=
  if w.taken then w.part.shedOrder.foldl Walk.candidate w else w

/-! ## E4: the depleted stage (R116) -/

/-- At A = 0 a BUDGET deferral loses its min-on wait, and is cut if it has no wait left (R116). -/
def Walk.depletedRecord (w : Walk) (n : Channel) : Walk :=
  let r := w.part.load n
  if r.state == .deferred && r.reason == .deferred .budget then
    let w := { w with part := w.part.modify n fun r => { r with waitMinOn := false } }
    if r.waitHold then w else w.makeCut n
  else w

/-- E4 (R116). -/
def Walk.depletedStage (w : Walk) : Walk :=
  if w.part.engine.allowance == 0 then w.part.engine.runList.foldl Walk.depletedRecord w else w

/-! ## E5: restore (R118 to R120) -/

/-- The restore is blocked (R118). -/
def Walk.blocked (w : Walk) : Bool :=
  w.cut || w.part.anyBudgetDeferral || w.part.anyStarting || decide (w.part.engine.spacing < w.part.budget.spacing)

/-- The restore candidate: the first record of the Standby List of class 1 to 7 that is eligible (R119). -/
def State.restoreCandidate (s : State) : Option Channel :=
  s.engine.standbyList.find? fun n => (s.load n).cls != 0 && s.eligible (s.load n)

/-- The start test: P plus the draw is at most A − H, which fails for every record when A − H is below 0 (R68). -/
def startTest (allowance margin : Nat) (draw : Int) (need : Nat) : Bool :=
  decide (margin ≤ allowance) && decide (draw + need ≤ (allowance : Int) - margin)

/-- The start test of a record in this evaluation (R120). -/
def Walk.fits (w : Walk) (n : Channel) : Bool :=
  startTest w.part.engine.allowance w.part.budget.marginMa w.draw (w.part.load n).drawMa

/-- E5 (R120): the candidate is started if it passes the start test and nothing blocks. -/
def Walk.restore (w : Walk) : State :=
  match w.part.restoreCandidate with
  | some n => if w.fits n && !w.blocked then w.part.start n else w.part
  | none => w.part

/-! ## E6: reason refresh (R123) -/

/-- The reason that E6 gives a STANDBY record, for the candidate of E5 and the outcome of its test (R123). -/
def State.refreshedReason (s : State) (candidate : Option Channel) (fits : Bool) (n : Channel) : StandbyReason :=
  let r := s.load n
  if s.forceOff.level then .forced
  else if r.dwell < r.minOff then .minOff
  else if candidate = some n then (if fits then .heldBack else .budget)
  else .queued

/-- E6 (R123): every record in STANDBY. A candidate that E5 started has left STANDBY. -/
def State.refreshReasons (candidate : Option Channel) (fits : Bool) (s : State) : State :=
  s.mapLoads fun n r =>
    if r.state = .standby then { r with reason := .standby (s.refreshedReason candidate fits n) } else r

/-! ## E7: the budget level (R125, R126) -/

/-- A record in STANDBY for which the predicate holds. -/
def State.anyStandby (s : State) (p : Load → Bool) : Bool :=
  channels.any fun n => (s.load n).state == .standby && p (s.load n)

/-- The level stage's table (R125). -/
def State.levelNow (s : State) : BudgetLevel :=
  if s.engine.allowance = 0 then .depleted
  else if s.anyStandby (·.shed) || s.anyBudgetDeferral then .shedding
  else if s.anyStandby fun r =>
      r.reason == .standby .budget || r.reason == .standby .queued || r.reason == .standby .heldBack then .tight
  else .ample

/-- E7: the level is set, and the DEPLETED attention on an entry into DEPLETED (R125, R126). -/
def State.setLevel (s : State) : State :=
  let t := { s with engine := { s.engine with level := s.levelNow } }
  if s.levelNow == .depleted && s.engine.level != .depleted then t.raise .depleted else t

/-- The close (R121, R122): the spacing counter increments up to 255, and the cut hold-off timer decrements down to 0. -/
def State.close (s : State) : State :=
  { s with engine := { s.engine with spacing := min (s.engine.spacing + 1) 255, holdOff := s.engine.holdOff - 1 } }

/-- One evaluation, its stages in the order of R107. -/
def State.evaluate (s : State) : State :=
  let a := s.formAllowance
  let w := (Walk.deficitWalk ⟨a, a.sense.pub.filtered, false⟩).depletedStage
  let candidate := w.part.restoreCandidate
  let fits := candidate.any w.fits
  ((w.restore.refreshReasons candidate fits).setLevel.close).sweepWindows

/-- EVALUATION (R107), once at each second tick (R2). A second tick taken in LOADING passes with no evaluation (12.3). -/
def execEvaluation (s : State) : Result :=
  whenPowered s (s.takeWork .evaluation fun t => if t.startup.ready then t.evaluate else t)

end Sys2Proof.Machine
end

