-- ==== Sys2Proof/Machine/Lines.lean ====
section
/-! DEFINITION. The line tick and the changes of filtered levels (R7, R76, R77, R89, R129, R130, R133, R145 to R147,
R149). A line tick counts the samples; a count that it completes makes the change of level due, and the change's own
command takes it at the same line tick (log 4). -/

namespace Sys2Proof.Machine

/-! ## Active levels (0.5) -/

/-- SW lines are active low: pressed is low. -/
def linePressed (l : LineLevels) (n : Channel) : Bool := !l.sw.getLsbD n.val

/-- HOLD lines are active high. -/
def lineHolding (l : LineLevels) (h : HoldLine) : Bool := l.hold.getLsbD h.val

/-- FORCE_OFF is active low. -/
def lineForcing (l : LineLevels) : Bool := !l.forceOff

/-- SETUP is active low. -/
def lineKeyed (l : LineLevels) : Bool := !l.setup

/-- DIAG lines are active low. -/
def lineFaulty (l : LineLevels) (n : Channel) : Bool := !l.diag.getLsbD n.val

/-! ## Filters -/

/-- The samples in a row that change a filtered level (R7, R129, R145). -/
def filterLength : Nat := 10

/-- A filter's step at a line tick: a sample equal to the level sets the run count to 0, one that differs counts
(R7, R129, R145). -/
def Filter.tick (raw : Bool) (f : Filter) : Filter :=
  if raw = f.level then { f with run := 0 } else { f with run := min (f.run + 1) filterLength }

/-- The count is complete: the change of level is due. -/
def Filter.due (f : Filter) : Bool := f.run == filterLength

/-- The filtered level takes the raw level and the run count returns to 0. -/
def Filter.toggled (f : Filter) : Filter := ⟨!f.level, 0⟩

/-- A switch line's step at a line tick with debounce d (R76). -/
def SwitchLine.tick (d : Nat) (raw : Bool) (l : SwitchLine) : SwitchLine :=
  if raw = l.pressed then { l with run := 0, due := false }
  else
    let run := min (l.run + 1) 250
    { l with run := run, due := decide (d ≤ run) }

/-- A diagnostic filter's step at a line tick (R149): no sample while the output is off, blanking first, then the run count
of asserted samples. -/
def Load.diagTick (faulty : Bool) (r : Load) : Load :=
  if r.on then
    if 0 < r.blanking then { r with blanking := r.blanking - 1 }
    else { r with diagRun := if faulty then min (r.diagRun + 1) 3 else 0 }
  else r

/-- The first line tick of start-up: the switch and FORCE_OFF filters take their first levels (R89, R145, R193). -/
def State.firstTick (s : State) : Bool := !s.startup.ready && s.startup.ticks == 0

/-- The debounce time that a line tick uses: the held profile's, and the factory value from the beginning of start-up until
stage 2 supplies the stored profile (R89). -/
def State.debounceNow (s : State) : Nat :=
  if !s.startup.ready && s.startup.kept.isNone then ({} : Budget).debounce else s.budget.debounce

/-- A line tick (R7, R76, R129, R145, R149): every run count steps or resets; no filtered level changes but for the first
levels of start-up, which are no change of a level. The line ticks of start-up are counted (R193). A switch-on by a change that
this tick makes due comes after the tick's diagnostic step, one of the two orders of R149 (DESIGN CHOICE, log 27). -/
def State.lineTick (l : LineLevels) (s : State) : State :=
  let first := s.firstTick
  { s with
    switches := Vector.ofFn fun n =>
      if first then ⟨linePressed l n, 0, false⟩ else s.switches[n].tick s.debounceNow (linePressed l n)
    holds := Vector.ofFn fun h => s.holds[h].tick (lineHolding l h)
    forceOff := if first then ⟨lineForcing l, 0⟩ else s.forceOff.tick (lineForcing l)
    setup := s.setup.tick (lineKeyed l)
    startup := { s.startup with
      ticks := if s.startup.ready then s.startup.ticks else min (s.startup.ticks + 1) 25 } }.mapLoads
    fun n r => r.diagTick (lineFaulty l n)

/-- LINE_TICK (R76), once at each line tick (R2). -/
def execLineTick (l : LineLevels) (s : State) : Result := whenPowered s (s.takeWork .line (State.lineTick l))

/-! ## Switch lines (R77) -/

/-- The request that a press (true) or release (false) sets in a switch mode, if it sets any (R77). -/
def switchRequest (mode : SwitchMode) (request pressed : Bool) : Option Bool :=
  match mode, pressed with
  | .none, _ => none
  | .toggle, true => some (!request)
  | .toggle, false => none
  | .follow, p => some p
  | .onOnly, true => some true
  | .onOnly, false => none

/-- A press or release acts on the record of its channel by the switch mode (R77). It hands nothing to a VACANT record, nor
while the Load Table is not yet rebuilt (R77, R89). -/
def State.switchEvent (n : Channel) (pressed : Bool) (s : State) : State :=
  let r := s.load n
  if s.startup.ready && r.enrolled then
    match switchRequest r.switchMode r.request pressed with
    | some on => s.setRequest n on
    | none => s
  else s

/-- The stable level of a switch line changes (R76). -/
def State.switchToggled (n : Channel) (s : State) : State :=
  { s with switches := s.switches.set n ⟨!s.switches[n].pressed, 0, false⟩ }

/-- STABLE_LEVEL_CHANGE (R77): the change that the line tick just taken made due. A switch-on by it comes after that tick's
diagnostic step (DESIGN CHOICE, log 27). -/
def execStableLevelChange (n : Channel) (s : State) : Result :=
  whenPowered s
    (if s.switches[n].due then ((s.switchToggled n).switchEvent n (!s.switches[n].pressed)).sweepWindows else s)

/-! ## SETUP and the hold lines -/

/-- SETUP_LEVEL_CHANGE (R7): it acts on no record by itself. -/
def execSetupLevelChange (s : State) : Result :=
  whenPowered s (if s.setup.due then { s with setup := s.setup.toggled } else s)

/-- The filtered level of a hold line changes. -/
def State.holdToggled (h : HoldLine) (s : State) : State := { s with holds := s.holds.set h s.holds[h].toggled }

/-- HOLD_ASSERTION (R129, R130): it acts on no record by itself. -/
def execHoldAssertion (h : HoldLine) (s : State) : Result :=
  whenPowered s (if s.holds[h].due && !s.holds[h].level then s.holdToggled h else s)

/-- The record waits on this hold line. -/
def Load.waitsOn (h : HoldLine) (r : Load) : Bool := r.state == .deferred && r.waitHold && r.holdLine == some h

/-- A release of a hold line ends the hold wait of every record that waits on it (R133). -/
def State.releaseHold (h : HoldLine) (s : State) : State :=
  channels.foldl (fun t n => if (t.load n).waitsOn h then t.endHoldWait n else t) s

/-- HOLD_RELEASE (R133). -/
def execHoldRelease (h : HoldLine) (s : State) : Result :=
  whenPowered s (if s.holds[h].due && s.holds[h].level then ((s.holdToggled h).releaseHold h).sweepWindows else s)

/-! ## FORCE_OFF (R146, R147) -/

/-- What an assertion of FORCE_OFF does to one record (R146). -/
def State.forceOffRecord (n : Channel) (s : State) : State :=
  match (s.load n).reason with
  | .deferred .requestOff => s.cutToIdle n
  | _ => s.forcedCut n

/-- An assertion of FORCE_OFF acts on every record, cancels every learn window and sets the FORCE_OFF attention (R146,
R163). -/
def State.forceOffAsserted (s : State) : State :=
  ((channels.foldl (fun (t : State) n => t.forceOffRecord n) { s with forceOff := ⟨true, 0⟩ }).mapLoads
    fun _ r => { r with window := .closed }).raise .forceOff

/-- FORCE_OFF_ASSERTION (R146). -/
def execForceOffAssertion (s : State) : Result :=
  whenPowered s (if s.forceOff.due && !s.forceOff.level then s.forceOffAsserted else s)

/-- FORCE_OFF_RELEASE (R147): every eligible class 0 STANDBY record is started; the release sets no attention. A
switch-on by it comes after the diagnostic step of the line tick that made it due (DESIGN CHOICE, log 27). -/
def execForceOffRelease (s : State) : Result :=
  whenPowered s (if s.forceOff.due && s.forceOff.level then
    ({ s with forceOff := ⟨false, 0⟩ }).essentialSweep.sweepWindows else s)

end Sys2Proof.Machine
end

