-- ==== Sys2Proof/Machine/Faults.lean ====
section
/-! DEFINITION. Diagnostic trips and lockout (R149 to R151). -/

namespace Sys2Proof.Machine

/-- The retry delay: the retry base times 2 raised to (retries used − 1), at most 3600 (R151). -/
def retryDelay (base used : Nat) : Nat := min 3600 (base * 2 ^ (used - 1))

/-- A trip that takes retries used beyond the limit locks the record (R150). -/
def Load.lockedOut (r : Load) : Load :=
  { r with state := .locked, reason := .none, request := false, requestStamp := none, retryTimer := none }

/-- A trip within the limit: the request keeps its value, a request OFF holds no stamp, and the retry timer is set
(R150, R91). -/
def Load.trippedOff (r : Load) : Load :=
  { r with
    state := .tripped
    reason := .none
    requestStamp := if r.request then r.requestStamp else none
    retryTimer := some (retryDelay r.retryBase r.retriesUsed) }

/-- The trip of an on record (R150), in the rule's order: the output goes off, retries used increments, TRIP is set, and
the record goes to LOCKED or TRIPPED. -/
def State.tripRecord (n : Channel) (s : State) : State :=
  let t := ((s.switchOff n).modify n fun r => { r with retriesUsed := r.retriesUsed + 1 }).raise .trip
  if (t.load n).retryLimit < (t.load n).retriesUsed then (t.modify n Load.lockedOut).raise .lockout
  else t.modify n Load.trippedOff

/-- TRIP (R150): the report that the line tick just taken made the third in a row. -/
def execTrip (n : Channel) (s : State) : Result :=
  whenPowered s (if (s.load n).on && (s.load n).diagRun == 3 then (s.tripRecord n).sweepWindows else s)

end Sys2Proof.Machine
end

