-- ==== Sys2Proof/Machine/ReserveEvents.lean ====
section
/-! DEFINITION. The anchors that the Reserve Estimator finds itself: the full sync and the rest re-anchor (R51, R53 to
R55). -/

namespace Sys2Proof.Machine

/-- The sync of R51: Q = C, anchored, remainder 0. -/
def Reserve.sync (m : Meter) (e : Reserve) : Reserve :=
  { e with q := some m.capacityMas, remainder := 0, syncDue := false }

/-- FULL_SYNC (R51): the sync that the sample tick just taken made due; the ANCHORED attention is set. -/
def execFullSync (s : State) : Result :=
  whenPowered s (if s.reserve.syncDue then ({ s with reserve := s.reserve.sync s.meter }).raise .anchored else s)

/-- The straight line between two points of the rest table (R53). -/
def interpolate (a b : Point) (v : Nat) : Nat :=
  a.fraction + (v - a.voltage) * (b.fraction - a.fraction) / (b.voltage - a.voltage)

/-- The mapped fraction above the first point of a table (R53): the segment that holds the voltage, or the last point's
fraction at and above it. -/
def mapAbove (a : Point) (v : Nat) : List Point → Nat
  | [] => a.fraction
  | b :: rest => if v < b.voltage then interpolate a b v else mapAbove b v rest

/-- The mapped fraction f_rest of a voltage (R53). -/
def mapRest (t : Vector Point 8) (v : Nat) : Nat :=
  if v ≤ t[0].voltage then t[0].fraction else mapAbove t[0] v [t[1], t[2], t[3], t[4], t[5], t[6], t[7]]

/-- The distance of two fractions, |f − f_rest| (R54). -/
def distance (a b : Nat) : Nat := (a - b) + (b - a)

/-- Whether the rest re-anchor sets Q: always while unanchored, and beyond the rest tolerance while anchored (R54). -/
def State.reanchors (s : State) (rested : Nat) : Bool :=
  match s.fraction with
  | none => true
  | some f => decide (s.meter.restTolerance < distance f rested)

/-- The rest re-anchor of R54 on the V_s of the publication that completed the rest limit. -/
def State.restReAnchor (s : State) : State :=
  let rested := mapRest s.rest s.sense.pub.sensed
  let t := { s with reserve := { s.reserve with reanchorDue := false } }
  if s.reanchors rested then
    { t with reserve := { t.reserve with q := some (rested * s.meter.capacityMas / 1000), remainder := 0 } }.raise .anchored
  else t

/-- REST_RE_ANCHOR (R54): the re-anchor that the sample tick just taken made due. -/
def execRestReAnchor (s : State) : Result :=
  whenPowered s (if s.reserve.reanchorDue then s.restReAnchor else s)

end Sys2Proof.Machine
end

