-- ==== Sys2Proof/Machine/Dispatch.lean ====
section
/-! DEFINITION. One arm per command. -/

namespace Sys2Proof.Machine

/-- The effect of a command on everything but the queue. -/
def exec (i : Instr) (s : State) : Host.Outcome State Fault Refusal :=
  match i with
  | .powerOn ads1 ads0 => Sys2Proof.Machine.execPowerOn ads1 ads0 s
  | .startupStage2 => Sys2Proof.Machine.execStartupStage2 s
  | .startupStage3 => Sys2Proof.Machine.execStartupStage3 s
  | .pulse dirHigh => Sys2Proof.Machine.execPulse dirHigh s
  | .sampleTick code => Sys2Proof.Machine.execSampleTick code s
  | .quietExpiry => Sys2Proof.Machine.execQuietExpiry s
  | .fullSync => Sys2Proof.Machine.execFullSync s
  | .restReAnchor => Sys2Proof.Machine.execRestReAnchor s
  | .evaluation => Sys2Proof.Machine.execEvaluation s
  | .dwellIncrement => Sys2Proof.Machine.execDwellIncrement s
  | .settleEnd n => Sys2Proof.Machine.execSettleEnd n s
  | .minOffExpiry => Sys2Proof.Machine.execMinOffExpiry s
  | .holdLimitExpiry n => Sys2Proof.Machine.execHoldLimitExpiry n s
  | .minOnReached n => Sys2Proof.Machine.execMinOnReached n s
  | .retryExpiry n => Sys2Proof.Machine.execRetryExpiry n s
  | .cleanRun n => Sys2Proof.Machine.execCleanRun n s
  | .stableLevelChange n => Sys2Proof.Machine.execStableLevelChange n s
  | .setupLevelChange => Sys2Proof.Machine.execSetupLevelChange s
  | .holdAssertion h => Sys2Proof.Machine.execHoldAssertion h s
  | .holdRelease h => Sys2Proof.Machine.execHoldRelease h s
  | .forceOffAssertion => Sys2Proof.Machine.execForceOffAssertion s
  | .forceOffRelease => Sys2Proof.Machine.execForceOffRelease s
  | .trip n => Sys2Proof.Machine.execTrip n s
  | .pointerSet address space index => Sys2Proof.Machine.execPointerSet address space index s
  | .readTransaction address count => Sys2Proof.Machine.execReadTransaction address count s
  | .statusSnapshot => Sys2Proof.Machine.execStatusSnapshot s
  | .partialWrite space index data => Sys2Proof.Machine.execPartialWrite space index data s
  | .loadCommit n data => Sys2Proof.Machine.execLoadCommit n data s
  | .meterProfileCommit data => Sys2Proof.Machine.execMeterProfileCommit data s
  | .budgetProfileCommit data => Sys2Proof.Machine.execBudgetProfileCommit data s
  | .restTableCommit data => Sys2Proof.Machine.execRestTableCommit data s
  | .statusCommit data => Sys2Proof.Machine.execStatusCommit data s
  | .listsWrite index data => Sys2Proof.Machine.execListsWrite index data s
  | .clearFault argument => Sys2Proof.Machine.execClearFault argument s
  | .forgetDraw argument => Sys2Proof.Machine.execForgetDraw argument s
  | .setReserve argument => Sys2Proof.Machine.execSetReserve argument s
  | .clearAnchor argument => Sys2Proof.Machine.execClearAnchor argument s
  | .saveProfile argument => Sys2Proof.Machine.execSaveProfile argument s
  | .restart argument => Sys2Proof.Machine.execRestart argument s
  | .setChangeMask argument => Sys2Proof.Machine.execSetChangeMask argument s
  | .saveCompletion programmed => Sys2Proof.Machine.execSaveCompletion programmed s
  | .captureTick cqHigh => Sys2Proof.Machine.execCaptureTick cqHigh s
  | .lineTick lines => Sys2Proof.Machine.execLineTick lines s
  | .lossOfPower cut => Sys2Proof.Machine.execLossOfPower cut s

end Sys2Proof.Machine
end

