-- ==== Sys2Proof/Safety.lean ====
section
/-! DEFINITION. The laws of the device that the spec states (R38, R46, R60, R66, R71, R74, R91 to R95, R120, R131, R144, R147,
R155, R158, R164), and of the work of the ticks of R2 (log 7). Each law is a decidable proposition of one state. No step faults or
refuses, so a run is safe when its states keep these laws. -/

namespace Sys2Proof.Machine

/-! ## Measurements, reserve and profiles -/

/-- The published values lie in their ranges (R26, R37, R38). -/
abbrev Published.lawful (p : Published) : Prop :=
  -500000 ≤ p.current ∧ p.current ≤ 500000 ∧ -500000 ≤ p.filtered ∧ p.filtered ≤ 500000
    ∧ p.sensed ≤ 32760 ∧ p.comp ≤ 32767

/-- The meter profile lies in its ranges (R41, R59). -/
abbrev Meter.lawful (m : Meter) : Prop :=
  (1 ≤ m.capacity ∧ m.capacity ≤ 1000) ∧ (100 ≤ m.pulseWeight ∧ m.pulseWeight ≤ 60000)
    ∧ (800 ≤ m.efficiency ∧ m.efficiency ≤ 1000) ∧ m.resistance ≤ 1000 ∧ (1 ≤ m.quietTime ∧ m.quietTime ≤ 1500)
    ∧ m.filterShift ≤ 7 ∧ (1 ≤ m.restTime ∧ m.restTime ≤ 240) ∧ m.restCurrent ≤ 65535 ∧ m.restTolerance ≤ 1000
    ∧ m.fullVoltage ≤ 32767 ∧ m.tailCurrent ≤ 65535 ∧ (1 ≤ m.fullTime ∧ m.fullTime ≤ 60)

/-- The rest table lies in its ranges, with voltages strictly ascending and fractions non-decreasing (R60). -/
abbrev restLawful (t : Vector Point 8) : Prop :=
  (∀ i : Fin 8, t[i].voltage ≤ 32767 ∧ t[i].fraction ≤ 1000)
    ∧ ∀ i j : Fin 8, i < j → t[i].voltage < t[j].voltage ∧ t[i].fraction ≤ t[j].fraction

/-- The budget profile lies in its ranges, with F_full above F_floor and V_ok above V_cut (R69, R71). -/
abbrev Budget.lawful (b : Budget) : Prop :=
  b.fFloor < b.fFull ∧ b.fFull ≤ 1000 ∧ b.vCut < b.vOk ∧ b.vOk ≤ 32767 ∧ (1 ≤ b.aMax ∧ b.aMax ≤ 65535)
    ∧ b.margin ≤ 65535 ∧ (1 ≤ b.spacing ∧ b.spacing ≤ 60) ∧ (1 ≤ b.cutHoldOff ∧ b.cutHoldOff ≤ 60)
    ∧ (10 ≤ b.debounce ∧ b.debounce ≤ 250)

/-- While anchored, Q lies in 0 to C; the charge remainder lies in 0 to 999 (R46). -/
abbrev State.reserveLaw (s : State) : Prop :=
  (∀ q ∈ s.reserve.q, q ≤ s.meter.capacityMas) ∧ s.reserve.remainder ≤ 999

/-- The allowance lies in 0 to A_max (R66). -/
abbrev State.allowanceLaw (s : State) : Prop := s.engine.allowance ≤ s.budget.aMaxMa

/-! ## Records -/

/-- The request field has the value that the record's state gives it (R74). -/
abbrev Load.requestLaw (r : Load) : Prop :=
  (r.state ∈ [.vacant, .idle, .locked] → r.request = false)
    ∧ (r.state ∈ [.standby, .starting, .running] → r.request = true)
    ∧ (r.state = .deferred → (r.request = true ↔ r.reason = .deferred .budget))

/-- A record holds a request stamp (R91) and a start stamp (R92) according to its state and request. -/
abbrev Load.stampsLaw (r : Load) : Prop :=
  r.requestStamp.isSome = (r.state == .standby || r.on || (r.state == .tripped && r.request))
    ∧ r.startStamp.isSome = r.on

/-- The reason field holds a standby reason in STANDBY, a cause in DEFERRED, and none in every other state (R19). -/
abbrev Load.reasonLaw (r : Load) : Prop :=
  (r.state = .standby ↔ ∃ why ∈ [StandbyReason.forced, .minOff, .heldBack, .budget, .queued], r.reason = .standby why)
    ∧ (r.state = .deferred ↔ ∃ cause ∈ [DeferCause.budget, .requestOff], r.reason = .deferred cause)

/-- A DEFERRED record carries a wait, and no other record does (R20, R131); only a STANDBY record carries a shed mark
(R20). -/
abbrev Load.marksLaw (r : Load) : Prop :=
  (r.waitHold || r.waitMinOn) = (r.state == .deferred) ∧ (r.shed = true → r.state = .standby)

/-- The phase of the window is one that the record's state admits (R158). -/
def Window.fits (state : LoadState) : Window → Bool
  | .closed => true
  | .settling _ => state == .starting
  | .closing _ => state == .running

/-- A window is settling only in STARTING, and closing only in RUNNING (R158). -/
abbrev Load.windowLaw (r : Load) : Prop := r.window.fits r.state = true

/-- No class 0 record is DEFERRED with cause BUDGET (R115). -/
abbrev Load.essentialLaw (r : Load) : Prop := r.reason = .deferred .budget → r.cls ≠ 0

/-- A TRIPPED record holds a retry timer, and no other record does (R143, R150, R152). -/
abbrev Load.retryLaw (r : Load) : Prop := r.retryTimer.isSome = (r.state == .tripped)

/-- A VACANT record keeps every field at its default (R11). -/
abbrev Load.vacantLaw (r : Load) : Prop := r.state = .vacant → r = {}

/-- What a record's state asks of its other fields. -/
abbrev Load.lawful (r : Load) : Prop :=
  r.requestLaw ∧ r.stampsLaw ∧ r.reasonLaw ∧ r.marksLaw ∧ r.windowLaw ∧ r.essentialLaw
    ∧ r.retryLaw ∧ r.vacantLaw

/-- The laws of one record, at every record. -/
abbrev State.recordsLaw (s : State) : Prop := ∀ n : Channel, (s.load n).lawful

/-- Retries used never exceeds the retry limit plus 1, and equals it exactly when the record is LOCKED (R155). -/
abbrev Load.retriesLaw (r : Load) : Prop :=
  r.retriesUsed ≤ r.retryLimit + 1 ∧ (r.retriesUsed = r.retryLimit + 1 ↔ r.state = .locked)

/-- The law of R155 at every record, with the vacant-record rule (R11) that enrolment rests on. -/
abbrev State.retriesLaw (s : State) : Prop := ∀ n : Channel, (s.load n).retriesLaw ∧ (s.load n).vacantLaw

/-- The fields of a record lie in their ranges (R4). -/
abbrev Load.inRange (r : Load) : Prop :=
  r.cls ≤ 7 ∧ (1 ≤ r.declaredDraw ∧ r.declaredDraw ≤ 65534) ∧ (∀ d ∈ r.learnedDraw, 1 ≤ d ∧ d ≤ 65534)
    ∧ (1 ≤ r.settleTime ∧ r.settleTime ≤ 60) ∧ r.minOn ≤ 3600 ∧ r.minOff ≤ 3600
    ∧ (1 ≤ r.holdLimit ∧ r.holdLimit ≤ 3600) ∧ r.retryLimit ≤ 7 ∧ (1 ≤ r.retryBase ∧ r.retryBase ≤ 255)
    ∧ r.dwell ≤ 65535 ∧ r.settleTimer ≤ 60 ∧ r.holdTimer ≤ 3600 ∧ (∀ t ∈ r.retryTimer, t ≤ 3600) ∧ r.cleanRun ≤ 300
    ∧ r.blanking ≤ 20 ∧ r.diagRun ≤ 3

/-- Every record's fields lie in their ranges, and so do those of the channel part kept for stage 3 (R194, R195). -/
abbrev State.recordsInRange (s : State) : Prop :=
  (∀ n : Channel, (s.load n).inRange) ∧ ∀ kept ∈ s.startup.kept, ∀ n : Channel, channelGood kept[n] = true

/-! ## Lists and stamps -/

/-- The Run List holds exactly the records in STARTING, RUNNING or DEFERRED, the Standby List exactly those in STANDBY, and no
record appears twice (R95). -/
abbrev State.listLaw (s : State) : Prop :=
  (∀ n : Channel, n ∈ s.engine.runList ↔ (s.load n).on = true)
    ∧ (∀ n : Channel, n ∈ s.engine.standbyList ↔ (s.load n).state = .standby)
    ∧ s.engine.runList.Nodup ∧ s.engine.standbyList.Nodup

/-- A stamp that the counter has issued (R90). -/
abbrev State.issued (s : State) (k : Nat) : Prop := k < s.engine.seq ∨ (s.engine.exhausted = true ∧ k = s.engine.seq)

/-- The sequence counter stays in its range, and is exhausted only at its end (R90). -/
abbrev State.counterLaw (s : State) : Prop :=
  s.engine.seq ≤ lastStamp ∧ (s.engine.exhausted = true → s.engine.seq = lastStamp)

/-- Request stamps are issued and distinct, start stamps are issued and distinct (R90 to R92). -/
abbrev State.stampsDistinct (s : State) : Prop :=
  (∀ n : Channel, ∀ k ∈ (s.load n).requestStamp, s.issued k) ∧ (∀ n : Channel, ∀ k ∈ (s.load n).startStamp, s.issued k)
    ∧ (∀ m n : Channel, m ≠ n → (s.load m).requestStamp = (s.load n).requestStamp → (s.load m).requestStamp = none)
    ∧ (∀ m n : Channel, m ≠ n → (s.load m).startStamp = (s.load n).startStamp → (s.load m).startStamp = none)

/-- The Standby List is ordered by class and request stamp ascending (R93), the Run List by start stamp ascending (R94). -/
abbrev State.listsOrdered (s : State) : Prop :=
  s.engine.standbyList.Pairwise
      (fun a b => (s.load a).cls < (s.load b).cls
        ∨ ((s.load a).cls = (s.load b).cls ∧ (s.load a).requestStamp.getD 0 < (s.load b).requestStamp.getD 0))
    ∧ s.engine.runList.Pairwise (fun a b => (s.load a).startStamp.getD 0 < (s.load b).startStamp.getD 0)

/-- The lists, their members, the stamps and the orders together (R90 to R95). -/
abbrev State.listsInOrder (s : State) : Prop :=
  s.recordsLaw ∧ s.listLaw ∧ s.counterLaw ∧ s.stampsDistinct ∧ s.listsOrdered

/-! ## The part as a whole -/

/-- While the start-up state is LOADING every record is VACANT or IDLE, so every output is off (R144, R157, R193). -/
abbrev State.loadingLaw (s : State) : Prop :=
  s.startup.ready = false → ∀ n : Channel, (s.load n).state = .vacant ∨ (s.load n).state = .idle

/-- While FORCE_OFF is asserted no record is in STARTING, RUNNING or DEFERRED (R147). -/
abbrev State.forceOffLaw (s : State) : Prop := s.forceOff.level = true → ∀ n : Channel, (s.load n).on = false

/-- An open learn window holds the output lines of the other channels as they stand: one that changed after the opening has
cancelled it (R164, log 23). -/
abbrev State.windowsLaw (s : State) : Prop :=
  ∀ n : Channel, ∀ o ∈ (s.load n).window.opening, ∀ m : Channel, m ≠ n → o.lines[m] = s.outputs[m]

/-- At most one record of class 1 to 7 is in STARTING (R120). -/
abbrev State.oneStarting (s : State) : Prop :=
  ∀ m n : Channel, (s.load m).state = .starting → (s.load m).cls ≠ 0 → (s.load n).state = .starting →
    (s.load n).cls ≠ 0 → m = n

/-- The pointer stands inside a record, and a snapshot is held exactly while a record is read partway (R169, R173). -/
abbrev State.pointerLaw (s : State) : Prop :=
  s.port.index < s.port.space.records ∧ s.port.offset < s.port.space.bytes
    ∧ (s.port.snapshot.isSome = decide (s.port.offset ≠ 0))
    ∧ (∀ l ∈ s.port.snapshot, l.length = s.port.space.bytes) ∧ s.port.staging = []

/-- The work that is due is work of the ticks that fall at the latest capture tick, each piece once at most, and none is due
before the first capture tick (R2). -/
abbrev State.tickLaw (s : State) : Prop :=
  s.timebase ≤ 10000 ∧ s.due.Nodup ∧ (s.timebase = 0 → s.due = []) ∧ ∀ w ∈ s.due, w ∈ workAt s.timebase

/-- The counters of the lines and of the engine lie in their ranges (R7, R26, R45, R75, R106, R129, R145, R193). -/
abbrev State.countersInRange (s : State) : Prop :=
  s.budget.lawful ∧ s.meter.lawful ∧ s.sense.counter ≤ 16777215 ∧ s.timebase ≤ 10000
    ∧ (∀ k ∈ s.sense.stamp, k ≤ 16777215)
    ∧ s.reserve.fullRun ≤ 14400 ∧ s.reserve.restRun ≤ 57600 ∧ s.engine.spacing ≤ 255 ∧ s.engine.holdOff ≤ 60
    ∧ (∀ n : Channel, s.switches[n].run ≤ 250) ∧ (∀ h : HoldLine, s.holds[h].run ≤ 10)
    ∧ s.forceOff.run ≤ 10 ∧ s.setup.run ≤ 10 ∧ s.startup.ticks ≤ 25

end Sys2Proof.Machine
end

