-- ==== Sys2Proof/Certificates/Slice0/Obligations.lean ====
section
/-! DEFINITION. The statements for the provers. Those that give a next state by an equation `{ s with … }` give the frame with
it: every field that the update does not name is unchanged. -/

open Sys2Proof Sys2Proof.Machine

/-! ## Words of the statements -/

/-- The byte of the attention flags with one more flag set (R180, R185). -/
abbrev Sys2Proof.Machine.Port.withFlag (bit : Nat) (p : Port) : Port := { p with flags := p.flags ||| (1#8 <<< bit) }

/-- The port after a record at this pointer was committed, with the pointer on the record after it (R170, R171): where the
pointer stood elsewhere before, the transaction set it, which discards a snapshot and, for STATUS and COMMAND, disarms the
mask (R169, R173, R174). -/
abbrev Sys2Proof.Machine.Port.afterRecord (space : Space) (index next : Nat) (p : Port) : Port :=
  if p.space = space ∧ p.index = index ∧ p.offset = 0 then
    { p with space := space, index := next, offset := 0, staging := [] }
  else
    { p with
      space := space, index := next, offset := 0, staging := [], snapshot := none
      mask := if space = .status ∨ space = .command then none else p.mask }

/-- The port after command i with this channel byte and result (R171, R176): command 6 is the last record of its space. -/
abbrev Sys2Proof.Machine.Port.afterCommand (i : Nat) (channel result : Byte) (p : Port) : Port :=
  { p.afterRecord .command i (if i = 6 then 0 else i + 1) with
    last := ⟨BitVec.ofNat 8 i, channel, result, p.last.count + 1⟩ }

/-- The record of a channel whose output has gone off by a cut or a trip (R100, R150): no start stamp, no timer, no wait, no
clean-run count, no window and no diagnostic count is left, and dwell is 0. -/
abbrev Sys2Proof.Machine.Load.outputOff (r : Load) : Load :=
  { r with
    startStamp := none, settleTimer := 0, waitHold := false, waitMinOn := false, holdTimer := 0, cleanRun := 0, dwell := 0
    window := .closed, blanking := 0, diagRun := 0 }

/-- The record of a cut to IDLE (R83, R100, R136): the request stamp is discarded. -/
abbrev Sys2Proof.Machine.Load.cutIdle (r : Load) : Load :=
  { r.outputOff with state := .idle, reason := .none, shed := false, requestStamp := none, retryTimer := none }

/-- The record of a cut to STANDBY with its request stamp kept (R100): the reason is that of R19 at the entry, where dwell is 0. -/
abbrev Sys2Proof.Machine.Load.cutStandby (forced shed : Bool) (r : Load) : Load :=
  { r.outputOff with
    state := .standby
    reason := .standby (if forced then .forced else if 0 < r.minOff then .minOff else .queued)
    shed := shed, retryTimer := none }

/-- The record of a deferred cut (R101, R136): IDLE for the cause REQUEST_OFF, a budget cut otherwise. -/
abbrev Sys2Proof.Machine.Load.cutByCause (forced : Bool) (r : Load) : Load :=
  if r.reason = .deferred .requestOff then r.cutIdle else r.cutStandby forced true

/-- What state t, at the end of an event, leaves of a window of record n that its own record does not end: it is closed if an
output line of another channel does not stand at the level it held when the window opened, and as it was if every one does
(R164). That the level of the opening is held is log 23. -/
abbrev Sys2Proof.Machine.Window.leftIn (n : Channel) (t : State) (w : Window) : Window :=
  match w with
  | .closed => .closed
  | .settling o => if ∃ m : Channel, m ≠ n ∧ o.lines[m] ≠ t.outputs[m] then .closed else .settling o
  | .closing o => if ∃ m : Channel, m ≠ n ∧ o.lines[m] ≠ t.outputs[m] then .closed else .closing o

/-- Record n of state t is a, but for its learn window where the output lines that t leaves cancel it (R164). -/
abbrev Sys2Proof.Machine.Load.sameButWindow (n : Channel) (t : State) (a : Load) : Prop :=
  t.load n = { a with window := a.window.leftIn n t }

/-- Every record but that of channel n is the same, but for a learn window that the output lines of t cancel (R164). -/
abbrev Sys2Proof.Machine.State.othersSame (n : Channel) (s t : State) : Prop :=
  ∀ m : Channel, m ≠ n → (s.load m).sameButWindow m t

/-- A record in STANDBY of class 1 to 7 that may be a restore candidate (R119). -/
abbrev Sys2Proof.Machine.State.mayRestore (s : State) (n : Channel) : Bool :=
  (s.load n).cls != 0 && !s.forceOff.level && decide ((s.load n).minOff ≤ (s.load n).dwell)

/-- The wait marks and the cause of a deferral made by the walk at allowance a (R114). -/
abbrev Sys2Proof.Machine.Load.deferredByWalk (held : Bool) (a : Nat) (r : Load) : Load :=
  { r with
    state := .deferred, reason := .deferred .budget
    waitHold := held
    waitMinOn := decide (r.dwell < r.minOn ∧ a ≠ 0)
    holdTimer := if held then r.holdLimit else 0
    settleTimer := 0, cleanRun := 0, window := .closed }

/-- A record that a deficit walk takes as a candidate (R97, R115). -/
abbrev Sys2Proof.Machine.State.isCandidate (s : State) (n : Channel) : Bool :=
  ((s.load n).state == .starting || (s.load n).state == .running) && (s.load n).cls != 0

/-- Record m stands before record n in the shed order (R97). -/
abbrev Sys2Proof.Machine.State.shedsBefore (s : State) (m n : Channel) : Bool :=
  decide ((s.load n).cls < (s.load m).cls)
    || ((s.load m).cls == (s.load n).cls && decide ((s.load n).startStamp.getD 0 < (s.load m).startStamp.getD 0))

/-- A cut of the record is possible now, at allowance a (R113). -/
abbrev Sys2Proof.Machine.State.cutNow (s : State) (a : Nat) (n : Channel) : Bool :=
  !s.held (s.load n).holdLine && (decide ((s.load n).minOn ≤ (s.load n).dwell) || a == 0)

/-- The relief that the walk has from the candidates before record n (R110, R112). -/
abbrev Sys2Proof.Machine.State.reliefBefore (s : State) (a : Nat) (n : Channel) : Nat :=
  ((channels.filter fun m => s.isCandidate m && s.shedsBefore m n && s.cutNow a m).map fun m =>
    (s.load m).learnedDraw.getD (s.load m).declaredDraw * 10).sum

/-- The walk is not frozen at allowance a (R111). -/
abbrev Sys2Proof.Machine.State.walkFree (s : State) (a : Nat) : Prop :=
  a = 0 ∨ ((∀ m : Channel, (s.load m).state ≠ .starting) ∧ s.engine.holdOff = 0)

/-- The part with this piece of a tick's work taken (R2, log 7). -/
abbrev Sys2Proof.Machine.State.without (w : TickWork) (s : State) : State := { s with due := s.due.erase w }

/-- The piece of a tick's work that a command takes (R2, log 3). -/
abbrev Sys2Proof.Instr.work : Instr → Option TickWork
  | .lineTick _ => some .line
  | .sampleTick _ => some .sample
  | .evaluation => some .evaluation
  | .dwellIncrement => some .dwell
  | .minOffExpiry => some .minOff
  | .settleEnd n => some (.settle n)
  | .holdLimitExpiry n => some (.holdLimit n)
  | .minOnReached n => some (.minOn n)
  | .retryExpiry n => some (.retry n)
  | .cleanRun n => some (.cleanRun n)
  | _ => none

/-- The sum of the two bytes of a field. -/
abbrev Sys2Proof.Machine.halfSum (h : Half) : Nat := h.toNat / 256 + h.toNat % 256

/-- The sum of the 284 content bytes of an image (R188). -/
abbrev Sys2Proof.StoreWords.byteSum (w : StoreWords) : Nat :=
  halfSum w.meter.capacity + halfSum w.meter.pulseWeight + halfSum w.meter.efficiency + halfSum w.meter.resistance
  + halfSum w.meter.quietTime + w.meter.filterShift.toNat + w.meter.restTime.toNat + halfSum w.meter.restCurrent
  + halfSum w.meter.restTolerance + halfSum w.meter.fullVoltage + halfSum w.meter.tailCurrent + w.meter.fullTime.toNat
  + halfSum w.budget.vOk + halfSum w.budget.vCut + halfSum w.budget.fFull + halfSum w.budget.fFloor + halfSum w.budget.aMax
  + halfSum w.budget.margin + w.budget.spacing.toNat + w.budget.cutHoldOff.toNat + w.budget.debounce.toNat
  + (List.ofFn fun i : Fin 8 => halfSum w.rest[i].voltage + halfSum w.rest[i].fraction).sum
  + (List.ofFn fun n : Channel =>
      let c := w.channels[n]
      c.enrolled.toNat + c.cls.toNat + halfSum c.declaredDraw + halfSum c.learnedDraw + c.settleTime.toNat
      + c.switchMode.toNat + c.holdLine.toNat + halfSum c.minOn + halfSum c.minOff + halfSum c.holdLimit
      + c.retryLimit.toNat + c.retryBase.toNat + c.restartPolicy.toNat).sum

/-- The stored fields of a channel lie in their ranges, and their codes name values (R4, R183, R194). -/
abbrev Sys2Proof.ChannelWords.good (c : ChannelWords) : Prop :=
  c.enrolled.toNat ≤ 1 ∧ c.cls.toNat ≤ 7 ∧ (1 ≤ c.declaredDraw.toNat ∧ c.declaredDraw.toNat ≤ 65534)
  ∧ c.learnedDraw.toNat ≠ 0 ∧ (1 ≤ c.settleTime.toNat ∧ c.settleTime.toNat ≤ 60) ∧ c.switchMode.toNat ≤ 3
  ∧ c.holdLine.toNat ≤ 4 ∧ c.minOn.toNat ≤ 3600 ∧ c.minOff.toNat ≤ 3600
  ∧ (1 ≤ c.holdLimit.toNat ∧ c.holdLimit.toNat ≤ 3600) ∧ c.retryLimit.toNat ≤ 7 ∧ 1 ≤ c.retryBase.toNat
  ∧ c.restartPolicy.toNat ≤ 1

/-- An image is good: none of the conditions of R194 that make it bad holds. -/
abbrev Sys2Proof.StoreWords.good (w : StoreWords) : Prop :=
  (w.byteSum + w.checksum.toNat) % 65536 = 0
  ∧ ((1 ≤ w.meter.capacity.toNat ∧ w.meter.capacity.toNat ≤ 1000)
    ∧ (100 ≤ w.meter.pulseWeight.toNat ∧ w.meter.pulseWeight.toNat ≤ 60000)
    ∧ (800 ≤ w.meter.efficiency.toNat ∧ w.meter.efficiency.toNat ≤ 1000) ∧ w.meter.resistance.toNat ≤ 1000
    ∧ (1 ≤ w.meter.quietTime.toNat ∧ w.meter.quietTime.toNat ≤ 1500) ∧ w.meter.filterShift.toNat ≤ 7
    ∧ (1 ≤ w.meter.restTime.toNat ∧ w.meter.restTime.toNat ≤ 240) ∧ w.meter.restTolerance.toNat ≤ 1000
    ∧ w.meter.fullVoltage.toNat ≤ 32767 ∧ (1 ≤ w.meter.fullTime.toNat ∧ w.meter.fullTime.toNat ≤ 60))
  ∧ (w.budget.vOk.toNat ≤ 32767 ∧ w.budget.vCut.toNat ≤ 32767 ∧ w.budget.fFull.toNat ≤ 1000
    ∧ w.budget.fFloor.toNat ≤ 1000 ∧ 1 ≤ w.budget.aMax.toNat
    ∧ (1 ≤ w.budget.spacing.toNat ∧ w.budget.spacing.toNat ≤ 60)
    ∧ (1 ≤ w.budget.cutHoldOff.toNat ∧ w.budget.cutHoldOff.toNat ≤ 60)
    ∧ (10 ≤ w.budget.debounce.toNat ∧ w.budget.debounce.toNat ≤ 250)
    ∧ w.budget.fFloor.toNat < w.budget.fFull.toNat ∧ w.budget.vCut.toNat < w.budget.vOk.toNat)
  ∧ ((∀ i : Fin 8, w.rest[i].voltage.toNat ≤ 32767 ∧ w.rest[i].fraction.toNat ≤ 1000)
    ∧ ∀ i : Fin 7, w.rest[i.castSucc].voltage.toNat < w.rest[i.succ].voltage.toNat
      ∧ w.rest[i.castSucc].fraction.toNat ≤ w.rest[i.succ].fraction.toNat)
  ∧ ∀ n : Channel, w.channels[n].good

/-- The fields of a meter profile as an image holds them (R188). -/
abbrev Sys2Proof.Machine.Meter.stored (m : Meter) : MeterWords where
  capacity := BitVec.ofNat 16 m.capacity
  pulseWeight := BitVec.ofNat 16 m.pulseWeight
  efficiency := BitVec.ofNat 16 m.efficiency
  resistance := BitVec.ofNat 16 m.resistance
  quietTime := BitVec.ofNat 16 m.quietTime
  filterShift := BitVec.ofNat 8 m.filterShift
  restTime := BitVec.ofNat 8 m.restTime
  restCurrent := BitVec.ofNat 16 m.restCurrent
  restTolerance := BitVec.ofNat 16 m.restTolerance
  fullVoltage := BitVec.ofNat 16 m.fullVoltage
  tailCurrent := BitVec.ofNat 16 m.tailCurrent
  fullTime := BitVec.ofNat 8 m.fullTime

/-- The fields of a budget profile as an image holds them (R188). -/
abbrev Sys2Proof.Machine.Budget.stored (b : Budget) : BudgetWords where
  vOk := BitVec.ofNat 16 b.vOk
  vCut := BitVec.ofNat 16 b.vCut
  fFull := BitVec.ofNat 16 b.fFull
  fFloor := BitVec.ofNat 16 b.fFloor
  aMax := BitVec.ofNat 16 b.aMax
  margin := BitVec.ofNat 16 b.margin
  spacing := BitVec.ofNat 8 b.spacing
  cutHoldOff := BitVec.ofNat 8 b.cutHoldOff
  debounce := BitVec.ofNat 8 b.debounce

/-- The thirteen fields of a channel as an image holds them (R188): enrolled 00h exactly at VACANT, the learned draw 65,535 for
absent, the codes of R183. -/
abbrev Sys2Proof.Machine.Load.stored (r : Load) : ChannelWords where
  enrolled := if r.state = .vacant then 0x00 else 0x01
  cls := BitVec.ofNat 8 r.cls
  declaredDraw := BitVec.ofNat 16 r.declaredDraw
  learnedDraw := match r.learnedDraw with
    | none => 0xFFFF
    | some draw => BitVec.ofNat 16 draw
  settleTime := BitVec.ofNat 8 r.settleTime
  switchMode := match r.switchMode with
    | .none => 0x00 | .toggle => 0x01 | .follow => 0x02 | .onOnly => 0x03
  holdLine := match r.holdLine with
    | none => 0x00
    | some h => BitVec.ofNat 8 (1 + h.val)
  minOn := BitVec.ofNat 16 r.minOn
  minOff := BitVec.ofNat 16 r.minOff
  holdLimit := BitVec.ofNat 16 r.holdLimit
  retryLimit := BitVec.ofNat 8 r.retryLimit
  retryBase := BitVec.ofNat 8 r.retryBase
  restartPolicy := match r.restartPolicy with
    | .startOff => 0x00 | .startOn => 0x01

/-- The meter profile that an image gives (R188, R194). -/
abbrev Sys2Proof.MeterWords.held (w : MeterWords) : Meter where
  capacity := w.capacity.toNat
  pulseWeight := w.pulseWeight.toNat
  efficiency := w.efficiency.toNat
  resistance := w.resistance.toNat
  quietTime := w.quietTime.toNat
  filterShift := w.filterShift.toNat
  restTime := w.restTime.toNat
  restCurrent := w.restCurrent.toNat
  restTolerance := w.restTolerance.toNat
  fullVoltage := w.fullVoltage.toNat
  tailCurrent := w.tailCurrent.toNat
  fullTime := w.fullTime.toNat

/-- The budget profile that an image gives (R188, R194). -/
abbrev Sys2Proof.BudgetWords.held (w : BudgetWords) : Budget where
  vOk := w.vOk.toNat
  vCut := w.vCut.toNat
  fFull := w.fFull.toNat
  fFloor := w.fFloor.toNat
  aMax := w.aMax.toNat
  margin := w.margin.toNat
  spacing := w.spacing.toNat
  cutHoldOff := w.cutHoldOff.toNat
  debounce := w.debounce.toNat

/-- The record that stage 3 rebuilds from the stored fields, with this request and request stamp, before it enters a list
(R25, R104, R195). -/
abbrev Sys2Proof.ChannelWords.record (c : ChannelWords) (request : Bool) (stamp : Option Nat) : Load where
  state := .idle
  cls := c.cls.toNat
  request := request
  declaredDraw := c.declaredDraw.toNat
  learnedDraw := if c.learnedDraw = 0xFFFF then none else some c.learnedDraw.toNat
  settleTime := c.settleTime.toNat
  switchMode := if c.switchMode = 0x00 then .none else if c.switchMode = 0x01 then .toggle
    else if c.switchMode = 0x02 then .follow else .onOnly
  holdLine := if c.holdLine = 0x00 then none else if c.holdLine = 0x01 then some 0 else if c.holdLine = 0x02 then some 1
    else if c.holdLine = 0x03 then some 2 else some 3
  learnEnable := true
  minOn := c.minOn.toNat
  minOff := c.minOff.toNat
  holdLimit := c.holdLimit.toNat
  retryLimit := c.retryLimit.toNat
  retryBase := c.retryBase.toNat
  restartPolicy := if c.restartPolicy = 0x00 then .startOff else .startOn
  retriesUsed := 0
  reason := .none
  shed := false
  waitHold := false
  waitMinOn := false
  dwell := 0
  settleTimer := 0
  holdTimer := 0
  retryTimer := none
  cleanRun := 0
  requestStamp := stamp
  startStamp := none
  window := .closed
  blanking := 0
  diagRun := 0

/-- The engine after one stamp was issued (R90): the counter goes up by 1, and after the last stamp it is exhausted. -/
abbrev Sys2Proof.Machine.Engine.stamped (e : Engine) : Engine :=
  if e.seq < 4294967295 then { e with seq := e.seq + 1 } else { e with exhausted := true }

/-- One load record replaced. -/
abbrev Sys2Proof.Machine.State.withLoad (n : Channel) (r : Load) (s : State) : State := { s with loads := s.loads.set n r }

/-- The reason at an entry into STANDBY (R19). -/
abbrev Sys2Proof.Machine.Load.reasonAtEntry (forced : Bool) (r : Load) : Reason :=
  .standby (if forced then .forced else if r.dwell < r.minOff then .minOff else .queued)

/-- The record of a start with this stamp, whose window opens on the output lines as the event leaves them (R98, R149,
R159). -/
abbrev Sys2Proof.Machine.Load.startsNow (stamp : Nat) (s t : State) (r : Load) : Load :=
  { r with
    state := .starting, shed := false, reason := .none, dwell := 0, settleTimer := r.settleTime
    startStamp := some stamp, blanking := 20, diagRun := 0
    window := if r.learnEnable then .settling ⟨s.sense.pub.current, s.sense.pub.valid, s.sense.dir, t.outputs⟩
      else .closed }

/-- The cut of DEFERRED record n by its cause, where the event has made the attention flags those given (R100, R101, R136). -/
abbrev Sys2Proof.Machine.State.cutsDeferred (n : Channel) (flags : Byte) (s t : State) : Prop :=
  t.load n = (s.load n).cutByCause s.forceOff.level
  ∧ t = { s with loads := t.loads, engine := t.engine, port := { s.port with flags := t.port.flags } }
  ∧ ((s.load n).reason = .deferred .requestOff →
      t.port.flags = flags ∧ t.engine = { s.engine with runList := s.engine.runList.erase n })
  ∧ ((s.load n).reason ≠ .deferred .requestOff →
      t.port.flags = flags ||| 0x01
      ∧ t.engine = { s.engine with
          runList := s.engine.runList.erase n, standbyList := t.engine.standbyList, holdOff := s.budget.cutHoldOff }
      ∧ t.engine.standbyList.Perm (n :: s.engine.standbyList))

/-- Record n, as r, enters STANDBY and gets the essential check, the engine being e before (R18, R19, R93, R102); a start that
needs a stamp while the counter is exhausted is not made (R90). -/
abbrev Sys2Proof.Machine.State.entersStandby (n : Channel) (r : Load) (e : Engine) (s t : State) : Prop :=
  let starts := r.cls = 0 ∧ s.forceOff.level = false ∧ r.minOff ≤ r.dwell ∧ e.exhausted = false
  (starts → t.load n = { r with retryTimer := none }.startsNow e.seq s t
    ∧ t.engine = { e.stamped with spacing := 0, runList := e.runList ++ [n] })
  ∧ (¬starts →
    ({ r with state := .standby, reason := r.reasonAtEntry s.forceOff.level, retryTimer := none }).sameButWindow n t
    ∧ t.engine = { e with standbyList := t.engine.standbyList } ∧ t.engine.standbyList.Perm (n :: e.standbyList))

/-- Record n, as r, leaves TRIPPED at the end of its retry (R152). -/
abbrev Sys2Proof.Machine.State.endsRetry (n : Channel) (r : Load) (s t : State) : Prop :=
  (r.request = true → s.entersStandby n r s.engine t)
  ∧ (r.request = false → t.engine = s.engine
    ∧ ({ r with state := .idle, reason := .none, shed := false, requestStamp := none, retryTimer := none }).sameButWindow n t)

/-- An arrival of ON at record n whose request is OFF, while a stamp is left (R81, R85 to R87, R90). -/
abbrev Sys2Proof.Machine.State.turnsOn (n : Channel) (s t : State) : Prop :=
  let r := { s.load n with request := true, requestStamp := some s.engine.seq }
  let e := s.engine.stamped
  ((s.load n).state = .idle → s.entersStandby n r e t)
  ∧ ((s.load n).state = .deferred → t.engine = e
    ∧ ({ r with state := .running, reason := .none, waitHold := false, waitMinOn := false, holdTimer := 0, settleTimer := 0
                cleanRun := 0 }).sameButWindow n t)
  ∧ ((s.load n).state = .tripped → t.engine = e ∧ r.sameButWindow n t)
  ∧ ((s.load n).state = .locked → t.engine = s.engine ∧ (s.load n).sameButWindow n t)

/-- An arrival of OFF at record n whose request is ON (R82 to R84, R86). -/
abbrev Sys2Proof.Machine.State.turnsOff (n : Channel) (s t : State) : Prop :=
  let r := { s.load n with request := false }
  let idle := { r with state := .idle, reason := .none, shed := false, requestStamp := none, retryTimer := none }
  ((s.load n).state = .standby → idle.sameButWindow n t
    ∧ t.engine = { s.engine with standbyList := s.engine.standbyList.erase n })
  ∧ ((s.load n).on = true → (s.load n).state ≠ .deferred → s.held (s.load n).holdLine = false →
      t.load n = r.cutIdle ∧ t.engine = { s.engine with runList := s.engine.runList.erase n })
  ∧ ((s.load n).on = true → (s.load n).state ≠ .deferred → s.held (s.load n).holdLine = true →
      t.engine = s.engine ∧ t.load n = { r with
        state := .deferred, reason := .deferred .requestOff, waitHold := true, waitMinOn := false, holdTimer := r.holdLimit
        settleTimer := 0, cleanRun := 0, window := .closed })
  ∧ ((s.load n).state = .deferred → t.engine = s.engine
      ∧ ({ r with reason := .deferred .requestOff }).sameButWindow n t)
  ∧ ((s.load n).state = .tripped → t.engine = s.engine ∧ idle.sameButWindow n t)

/-- A restart has begun (R182, R192, R193, R196): stage 1 is taken, and what the rules keep is kept. -/
abbrev Sys2Proof.Machine.State.restartsAs (s t : State) : Prop :=
  t = { s with
    engine := { s.engine with allowance := 0, level := .ample, runList := [], standbyList := [] }
    switches := Vector.replicate 12 ⟨false, 0, false⟩
    holds := Vector.replicate 4 ⟨false, 0⟩, forceOff := ⟨false, 0⟩, setup := ⟨false, 0⟩
    port := { s.port with
      space := .load, index := 0, offset := 0, staging := [], snapshot := none, sent := [], mask := none
      partialMark := false, refusedMark := false, last := ⟨0xFF, 0xFF, 0x00, 0⟩ }
    store := { s.store with restartPending := false }
    startup := ⟨false, 0, none⟩
    loads := t.loads }
  ∧ ∀ n : Channel, t.load n = if (s.load n).state = .vacant then s.load n else { s.load n with
      state := .idle, request := false, reason := .none, shed := false, waitHold := false, waitMinOn := false
      retriesUsed := 0, settleTimer := 0, holdTimer := 0, retryTimer := none, cleanRun := 0, requestStamp := none
      startStamp := none, window := .closed, blanking := 0, diagRun := 0 }

/-- The bytes of a 2-byte and of a 4-byte number, most significant first (0.6). -/
abbrev Sys2Proof.Machine.bytes2 (v : Nat) : List Byte := [BitVec.ofNat 8 (v / 256), BitVec.ofNat 8 v]

abbrev Sys2Proof.Machine.bytes4 (v : Int) : List Byte :=
  [BitVec.ofInt 8 (v / 16777216), BitVec.ofInt 8 (v / 65536), BitVec.ofInt 8 (v / 256), BitVec.ofInt 8 v]

/-- A byte of marks, bit 0 first. -/
abbrev Sys2Proof.Machine.bitsByte (bits : List Bool) : Byte :=
  BitVec.ofNat 8 (bits.foldr (fun b v => b.toNat + 2 * v) 0)

/-- The state timer remaining (R23). -/
abbrev Sys2Proof.Machine.Load.timerShown (r : Load) : Nat :=
  match r.state with
  | .starting => r.settleTimer
  | .deferred => max (if r.waitHold then r.holdTimer else 0)
      (if r.waitMinOn ∧ r.dwell < r.minOn then r.minOn - r.dwell else 0)
  | .tripped => r.retryTimer.getD 0
  | .vacant | .idle | .standby | .running | .locked => 0

/-- A load record as it is laid out (R183). -/
abbrev Sys2Proof.Machine.Load.layout (r : Load) : List Byte :=
  [match r.state with
    | .vacant => 0x00 | .idle => 0x01 | .standby => 0x02 | .starting => 0x03
    | .running => 0x04 | .deferred => 0x05 | .tripped => 0x06 | .locked => 0x07,
   if r.state = .vacant then 0x00 else 0x01, BitVec.ofNat 8 r.cls, if r.request then 0x01 else 0x00]
  ++ bytes2 r.declaredDraw ++ bytes2 (r.learnedDraw.getD 0xFFFF)
  ++ [BitVec.ofNat 8 r.settleTime,
   match r.switchMode with
    | .none => 0x00 | .toggle => 0x01 | .follow => 0x02 | .onOnly => 0x03,
   match r.holdLine with
    | none => 0x00
    | some h => BitVec.ofNat 8 (1 + h.val),
   if r.learnEnable then 0x01 else 0x00]
  ++ bytes2 r.minOn ++ bytes2 r.minOff ++ bytes2 r.holdLimit
  ++ [BitVec.ofNat 8 r.retryLimit, BitVec.ofNat 8 r.retryBase,
   match r.restartPolicy with
    | .startOff => 0x00 | .startOn => 0x01,
   BitVec.ofNat 8 r.retriesUsed,
   match r.reason with
    | .none => 0x00
    | .standby .forced => 0x01 | .standby .minOff => 0x02 | .standby .heldBack => 0x03
    | .standby .budget => 0x04 | .standby .queued => 0x05
    | .deferred .budget => 0x11 | .deferred .requestOff => 0x12,
   bitsByte [r.shed, decide (r.window ≠ .closed), r.waitHold, r.waitMinOn]]
  ++ bytes2 r.dwell ++ bytes2 r.timerShown

/-- The STATUS record as it is laid out (R177, R185). MODEL'S CHOICE (log 37): bits that R185 does not name read 0. -/
abbrev Sys2Proof.Machine.State.statusLayout (s : State) : List Byte :=
  [match s.engine.level with
    | .ample => 0x00 | .tight => 0x01 | .shedding => 0x02 | .depleted => 0x03,
   bitsByte [s.startup.ready, decide (s.store.saving ≠ none), s.store.restartPending],
   if s.sense.pub.valid then 0x01 else 0x00, bitsByte [s.port.partialMark, s.port.refusedMark]]
  ++ bytes4 s.engine.allowance ++ bytes4 s.sense.pub.current ++ bytes4 s.sense.pub.filtered
  ++ bytes2 s.sense.pub.sensed ++ bytes2 s.sense.pub.comp
  ++ (match s.reserve.q with
    | some q => bytes2 (q * 1000 / (s.meter.capacity * 3600000)) ++ bytes4 q
    | none => [0xFF, 0xFF, 0, 0, 0, 0])
  ++ [bitsByte [s.setup.level, s.forceOff.level, s.holds[0].level, s.holds[1].level, s.holds[2].level, s.holds[3].level],
   bitsByte ([8, 9, 10, 11].map fun n : Channel => s.switches[n].pressed),
   bitsByte ([0, 1, 2, 3, 4, 5, 6, 7].map fun n : Channel => s.switches[n].pressed),
   BitVec.ofNat 8 s.engine.spacing, BitVec.ofNat 8 s.engine.holdOff, s.port.flags, s.port.enables, 0, 0, 0, 0, 0, 0, 0]

/-- A LISTS record as it is laid out (R105, R186). -/
abbrev Sys2Proof.Machine.listLayout (l : List Channel) : List Byte :=
  BitVec.ofNat 8 l.length :: List.ofFn fun i : Fin 12 => match l[i.val]? with
    | some n => BitVec.ofNat 8 n.val
    | none => 0xFF

/-- The profile records as they are laid out (R184). -/
abbrev Sys2Proof.Machine.State.profileLayout (s : State) (index : Nat) : List Byte :=
  match index with
  | 0 =>
    let m := s.meter
    bytes2 m.capacity ++ bytes2 m.pulseWeight ++ bytes2 m.efficiency ++ bytes2 m.resistance ++ bytes2 m.quietTime
      ++ [BitVec.ofNat 8 m.filterShift, BitVec.ofNat 8 m.restTime] ++ bytes2 m.restCurrent ++ bytes2 m.restTolerance
      ++ bytes2 m.fullVoltage ++ bytes2 m.tailCurrent ++ [BitVec.ofNat 8 m.fullTime, 0, 0, 0, 0, 0, 0, 0, 0, 0, 0, 0]
  | 1 =>
    let b := s.budget
    bytes2 b.vOk ++ bytes2 b.vCut ++ bytes2 b.fFull ++ bytes2 b.fFloor ++ bytes2 b.aMax ++ bytes2 b.margin
      ++ [BitVec.ofNat 8 b.spacing, BitVec.ofNat 8 b.cutHoldOff, BitVec.ofNat 8 b.debounce,
          0, 0, 0, 0, 0, 0, 0, 0, 0, 0, 0, 0, 0, 0, 0, 0, 0]
  | _ => (List.ofFn fun i : Fin 8 => bytes2 s.rest[i].voltage ++ bytes2 s.rest[i].fraction).flatten

/-- A record as it is laid out at this moment (R168, R183 to R186). -/
abbrev Sys2Proof.Machine.State.layout (s : State) (space : Space) (index : Nat) : List Byte :=
  match space with
  | .load => if h : index < 12 then (s.load ⟨index, h⟩).layout else []
  | .profile => s.profileLayout index
  | .status => s.statusLayout
  | .command => [s.port.last.command, s.port.last.channel, s.port.last.result, s.port.last.count]
  | .lists => listLayout (if index = 0 then s.engine.runList else s.engine.standbyList)

/-- The part with this change mask armed (R174). -/
abbrev Sys2Proof.Machine.State.armed (items : Wide) (s : State) : State := { s with port := { s.port with mask := some items } }

/-- The part after a LOAD_COMMIT at record n that has made that record r, but for what it hands on (R6, R171, R174). -/
abbrev Sys2Proof.Machine.State.fieldsTaken (n : Channel) (r : Load) (s : State) : State :=
  { s.withLoad n r with
    port := { s.port.afterRecord .load n.val (if n.val = 11 then 0 else n.val + 1) with mask := none } }

/-! ## The machine as a whole -/

/-- A step is the command at the front of the queue, taken with the rest of the queue. MODEL'S CHOICE (log 2): on an empty
queue the block idles. -/
def Obligations.StepTakesFrontCommand : Prop :=
  (∀ (c : Instr) (rest : List Instr) (s : State), step { s with pending := c :: rest } = exec c { s with pending := rest })
    ∧ ∀ s : State, s.pending = [] → step s = .next s

/-- MODEL'S CHOICE (log 1, log 28): every command answers a next state, and leaves the queue as it was. -/
def Obligations.EveryCommandAnswersAndKeepsTheQueue : Prop :=
  ∀ (c : Instr) (s : State), ∃ t : State, exec c s = .next t ∧ t.pending = s.pending

/-- In LOADING the port does not answer: no transaction has an effect (11.1, 12.3). -/
def Obligations.PortIsSilentInLoading : Prop :=
  ∀ (s : State) (c : Instr), s.startup.ready = false →
    ((∃ a b d, c = .pointerSet a b d) ∨ (∃ a k, c = .readTransaction a k) ∨ c = .statusSnapshot
      ∨ (∃ a k d, c = .partialWrite a k d) ∨ (∃ n d, c = .loadCommit n d) ∨ (∃ d, c = .meterProfileCommit d)
      ∨ (∃ d, c = .budgetProfileCommit d) ∨ (∃ d, c = .restTableCommit d) ∨ (∃ d, c = .statusCommit d)
      ∨ (∃ k d, c = .listsWrite k d) ∨ (∃ a, c = .clearFault a) ∨ (∃ a, c = .forgetDraw a) ∨ (∃ a, c = .setReserve a)
      ∨ (∃ a, c = .clearAnchor a) ∨ (∃ a, c = .saveProfile a) ∨ (∃ a, c = .restart a) ∨ ∃ a, c = .setChangeMask a) →
    exec c s = .next s

/-- POWER_ON sets every block to its power-on values, reads the straps and keeps the stored image (R4, R26, R41, R45, R59,
R60, R69, R106, R157, R167, R182, R187, R193). MODEL'S CHOICE (log 29): a part that has power takes it too, and the stored
image then stays even with a save in flight. -/
def Obligations.PowerOnSetsPowerOnValues : Prop :=
  ∀ (ads1 ads0 : Bool) (s : State), ∃ t : State, exec (.powerOn ads1 ads0) s = .next t
    ∧ t.powered = true ∧ t.timebase = 0 ∧ t.due = []
    ∧ (t.sense.counter = 0 ∧ t.sense.cq = true ∧ t.sense.stamp = none ∧ t.sense.period = none ∧ t.sense.dir = .discharge
      ∧ t.sense.pub.current = 0 ∧ t.sense.pub.valid = false ∧ t.sense.pub.filtered = 0 ∧ t.sense.pub.sensed = 0
      ∧ t.sense.pub.comp = 0)
    ∧ (t.reserve.q = none ∧ t.reserve.remainder = 0 ∧ t.reserve.fullRun = 0 ∧ t.reserve.restRun = 0)
    ∧ t.meter = ⟨100, 360, 950, 20, 60, 3, 30, 200, 50, 14200, 2000, 5⟩
    ∧ t.budget = ⟨12400, 11600, 500, 150, 10000, 100, 5, 5, 30⟩
    ∧ t.rest = #v[⟨11800, 0⟩, ⟨12000, 100⟩, ⟨12100, 200⟩, ⟨12200, 350⟩, ⟨12300, 500⟩, ⟨12400, 650⟩, ⟨12550, 850⟩,
        ⟨12700, 1000⟩]
    ∧ (t.engine.allowance = 0 ∧ t.engine.level = .ample ∧ t.engine.spacing = 255 ∧ t.engine.holdOff = 0
      ∧ t.engine.seq = 0 ∧ t.engine.exhausted = false ∧ t.engine.runList = [] ∧ t.engine.standbyList = [])
    ∧ (∀ n : Channel, t.load n = {
        state := .vacant, cls := 7, request := false, declaredDraw := 100, learnedDraw := none, settleTime := 2
        switchMode := .none, holdLine := none, learnEnable := true, minOn := 0, minOff := 0, holdLimit := 600
        retryLimit := 3, retryBase := 5, restartPolicy := .startOff, retriesUsed := 0, reason := .none, shed := false
        waitHold := false, waitMinOn := false, dwell := 0, settleTimer := 0, holdTimer := 0, retryTimer := none
        cleanRun := 0, requestStamp := none, startStamp := none, window := .closed, blanking := 0, diagRun := 0 })
    ∧ (∀ n : Channel, t.outputs[n] = false)
    ∧ ((∀ h : HoldLine, t.holds[h] = ⟨false, 0⟩) ∧ t.setup = ⟨false, 0⟩ ∧ t.forceOff.run = 0
      ∧ ∀ n : Channel, t.switches[n].run = 0)
    ∧ t.port.address = (if ads1 then (if ads0 then 0x5F else 0x5E) else (if ads0 then 0x5D else 0x5C))
    ∧ (t.port.space = .load ∧ t.port.index = 0 ∧ t.port.offset = 0 ∧ t.port.staging = [] ∧ t.port.snapshot = none
      ∧ t.port.mask = none ∧ t.port.partialMark = false ∧ t.port.refusedMark = false ∧ t.port.flags = 0x00
      ∧ t.port.enables = 0xDF ∧ t.port.last = ⟨0xFF, 0xFF, 0x00, 0⟩ ∧ t.alertLow = false)
    ∧ (t.store.image = s.store.image ∧ t.store.saving = none ∧ t.store.restartPending = false
      ∧ t.store.failedCarry = false)
    ∧ t.startup = ⟨false, 0, none⟩

/-- The state at reset is one that POWER_ON leaves, and every law of Safety.lean holds at it; that its straps are low is the
MODEL'S CHOICE (log 8). -/
def Obligations.ResetIsPoweredOnAndLawful : Prop :=
  exec (.powerOn false false) State.reset = .next State.reset
    ∧ State.reset.sense.pub.lawful ∧ State.reset.reserveLaw ∧ restLawful State.reset.rest ∧ State.reset.countersInRange
    ∧ State.reset.allowanceLaw ∧ State.reset.listsInOrder ∧ State.reset.retriesLaw ∧ State.reset.recordsInRange
    ∧ State.reset.loadingLaw ∧ State.reset.forceOffLaw ∧ State.reset.oneStarting ∧ State.reset.pointerLaw
      ∧ State.reset.tickLaw ∧ State.reset.windowsLaw

/-- Counted from power-on, every 10th capture tick is a line tick, every 250th line tick a sample tick, and every 4th sample
tick a second tick, and each is one tick (R2). MODEL'S CHOICE: a tick's work is due from its capture tick until it is taken
or the next capture tick comes (log 7), a command that takes none changes nothing (log 1), and the work of a second tick is
sent in parts (log 3); QUIET_EXPIRY takes no work of its own (log 5). -/
def Obligations.TicksFallInFixedRatio : Prop :=
  (∀ (levels : List Bool) (s : State), s.powered = true → s.timebase = 0 → s.due = [] →
    ∃ t : State, levels.foldl (fun (o : Result) cq => match o with
        | .next u => exec (.captureTick cq) u
        | stop => stop) (.next s) = .next t
      ∧ t.due.Nodup
      ∧ (.line ∈ t.due ↔ 0 < levels.length ∧ 10 ∣ levels.length)
      ∧ (.sample ∈ t.due ↔ 0 < levels.length ∧ 10 ∣ levels.length ∧ 250 ∣ levels.length / 10)
      ∧ ∀ w : TickWork, w ≠ .line → w ≠ .sample →
        (w ∈ t.due ↔ 0 < levels.length ∧ 2500 ∣ levels.length ∧ 4 ∣ levels.length / 2500))
    ∧ (∀ (s : State) (c : Instr) (w : TickWork), c.work = some w → w ∉ s.due → exec c s = .next s)
    ∧ (∀ (s t : State) (c : Instr) (w : TickWork), s.powered = true → c.work = some w → w ∈ s.due → exec c s = .next t →
        t.due = s.due.erase w)
    ∧ (∀ (s t : State) (c : Instr), c.work = none → (∀ high, c ≠ .captureTick high) → (∀ a b, c ≠ .powerOn a b) →
        (∀ cut, c ≠ .lossOfPower cut) → exec c s = .next t → t.due = s.due)
    ∧ ∀ s : State, .sample ∉ s.due → exec .quietExpiry s = .next s

/-! ## Battery Sense -/

/-- CAPTURE_TICK (R27, R28): the counter increments first and wraps; then the sample is compared and stored. MODEL'S CHOICE:
the tick counts the timebase within its second (log 7), and an edge is marked for PULSE to take (log 6). -/
def Obligations.CaptureTickCountsAndSamples : Prop :=
  (∀ (s : State) (high : Bool), s.powered = true → s.sense.counter ≤ 16777215 →
    exec (.captureTick high) s = .next { s with
      timebase := s.timebase % 10000 + 1
      due := workAt (s.timebase % 10000 + 1)
      sense := { s.sense with
        counter := if s.sense.counter = 16777215 then 0 else s.sense.counter + 1
        edge := !s.sense.cq && high
        cq := high } })
    ∧ ∀ (a b high : Bool) (s t u : State), exec (.powerOn a b) s = .next t → exec (.captureTick high) t = .next u →
        t.sense.counter = 0 ∧ u.sense.counter = 1

/-- PULSE (R29 to R31, R164): the new period, stamp and direction; a window of the other direction is cancelled. MODEL'S
CHOICE: the pulse is taken from the edge that the capture tick marked (log 6), and PULSE without one changes nothing (log
1). -/
def Obligations.PulseFormsPeriodAndStamp : Prop :=
  ∀ (s : State) (dirHigh : Bool), s.powered = true →
    (s.sense.edge = false → exec (.pulse dirHigh) s = .next s)
    ∧ (s.sense.edge = true → ∃ t : State, exec (.pulse dirHigh) s = .next t
      ∧ t = { s with
          sense := { s.sense with
            edge := false
            period := match s.sense.stamp with
              | some k => if (if dirHigh then Direction.discharge else .charge) = s.sense.dir
                  then some ((s.sense.counter + 16777216 - k) % 16777216) else none
              | none => none
            stamp := some s.sense.counter
            dir := if dirHigh then .discharge else .charge }
          reserve := t.reserve
          loads := t.loads }
      ∧ (s.reserve.q = none → t.reserve = s.reserve)
      ∧ ∀ n : Channel, t.load n = { s.load n with
          window := match (s.load n).window with
            | .closed => .closed
            | .settling o => if o.dir = (if dirHigh then .discharge else .charge) then .settling o else .closed
            | .closing o => if o.dir = (if dirHigh then .discharge else .charge) then .closing o else .closed })

/-- A discharge pulse while anchored lowers Q by W, to 0 at the least, and leaves the remainder (R48); a charge pulse adds W
times η with the remainder, in whole mAs, up to C (R49). The premise is an edge that a capture tick marked (log 6). -/
def Obligations.PulsesCountIntoReserve : Prop :=
  ∀ (s : State) (q : Nat), s.powered = true → s.sense.edge = true → s.reserve.q = some q →
    (∃ t : State, exec (.pulse true) s = .next t
      ∧ t.reserve = { s.reserve with q := some (if q < s.meter.pulseWeight then 0 else q - s.meter.pulseWeight) })
    ∧ ∃ t : State, exec (.pulse false) s = .next t
      ∧ (q + (s.meter.pulseWeight * s.meter.efficiency + s.reserve.remainder) / 1000 < s.meter.capacity * 3600000 →
          t.reserve = { s.reserve with
            q := some (q + (s.meter.pulseWeight * s.meter.efficiency + s.reserve.remainder) / 1000)
            remainder := (s.meter.pulseWeight * s.meter.efficiency + s.reserve.remainder) % 1000 })
      ∧ (s.meter.capacity * 3600000 ≤ q + (s.meter.pulseWeight * s.meter.efficiency + s.reserve.remainder) / 1000 →
          t.reserve = { s.reserve with q := some (s.meter.capacity * 3600000), remainder := 0 })

/-- The quiet test (R33) within SAMPLE_TICK. MODEL'S CHOICE (log 5): QUIET_EXPIRY is the same test alone. -/
def Obligations.QuietTestDiscardsAnOldStamp : Prop :=
  ∀ s : State, s.powered = true → .sample ∈ s.due →
    (s.sense.stamp = none →
      exec .quietExpiry s = .next s ∧ ∀ code : BitVec 12, ∃ t : State, exec (.sampleTick code) s = .next t
        ∧ t.sense.stamp = none ∧ t.sense.period = s.sense.period ∧ t.sense.dir = s.sense.dir)
    ∧ ∀ k : Nat, s.sense.stamp = some k →
      ((s.sense.counter + 16777216 - k) % 16777216 ≤ s.meter.quietTime * 10000 →
        exec .quietExpiry s = .next s ∧ ∀ code : BitVec 12, ∃ t : State, exec (.sampleTick code) s = .next t
          ∧ t.sense.stamp = some k ∧ t.sense.period = s.sense.period ∧ t.sense.dir = s.sense.dir)
      ∧ (s.meter.quietTime * 10000 < (s.sense.counter + 16777216 - k) % 16777216 →
        exec .quietExpiry s = .next { s with sense := { s.sense with stamp := none, period := none } }
        ∧ ∀ code : BitVec 12, ∃ t : State, exec (.sampleTick code) s = .next t
          ∧ t.sense.stamp = none ∧ t.sense.period = none ∧ t.sense.dir = s.sense.dir)

/-- The current estimate of a sample tick and its validity (R34), after the quiet test. MODEL'S CHOICE (log 36): it holds at the
first sample tick after power-on too, where R43 takes it that no period can yet be present. -/
def Obligations.SampleTickFormsEstimate : Prop :=
  ∀ (s : State) (code : BitVec 12), s.powered = true → .sample ∈ s.due → ∃ t : State, exec (.sampleTick code) s = .next t
    ∧ (t.sense.period = none → t.sense.pub.current = 0 ∧ t.sense.pub.valid = false)
    ∧ ∀ k p : Nat, t.sense.stamp = some k → t.sense.period = some p → 2 ≤ p →
        t.sense.pub.valid = true
        ∧ t.sense.pub.current =
            (match s.sense.dir with
              | .discharge => ((min 500000 (s.meter.pulseWeight * 10000
                  / max p ((s.sense.counter + 16777216 - k) % 16777216)) : Nat) : Int)
              | .charge => -((min 500000 (s.meter.pulseWeight * 10000
                  / max p ((s.sense.counter + 16777216 - k) % 16777216)) : Nat) : Int))

/-- The filter step, the conversion and the compensation of a sample tick, in one published set (R36 to R39). Beside Battery
Sense, only the run counters of the reserve, what they make due, and the windows and learned draws can change. MODEL'S
CHOICE (log 5): a sync or a re-anchor is only made due. -/
def Obligations.SampleTickFiltersAndConverts : Prop :=
  ∀ (s : State) (code : BitVec 12), s.powered = true → .sample ∈ s.due → ∃ t : State, exec (.sampleTick code) s = .next t
    ∧ t = { s with
        due := s.due.erase .sample
        sense := { s.sense with stamp := t.sense.stamp, period := t.sense.period, pub := t.sense.pub }
        reserve := { s.reserve with
          fullRun := t.reserve.fullRun, restRun := t.reserve.restRun, syncDue := t.reserve.syncDue
          reanchorDue := t.reserve.reanchorDue }
        loads := t.loads }
    ∧ (∀ n : Channel, t.load n = { s.load n with window := (t.load n).window, learnedDraw := (t.load n).learnedDraw })
    ∧ t.sense.pub.filtered =
        s.sense.pub.filtered + (t.sense.pub.current - s.sense.pub.filtered).tdiv (2 ^ s.meter.filterShift)
    ∧ (s.meter.filterShift = 0 → t.sense.pub.filtered = t.sense.pub.current)
    ∧ min s.sense.pub.filtered t.sense.pub.current ≤ t.sense.pub.filtered
    ∧ t.sense.pub.filtered ≤ max s.sense.pub.filtered t.sense.pub.current
    ∧ t.sense.pub.sensed = code.toNat * 8
    ∧ (t.sense.pub.comp : Int) =
        max 0 (min 32767 ((code.toNat * 8 : Nat) + (t.sense.pub.filtered * s.meter.resistance).tdiv 1000))

/-- I_s and I_f stay in −500,000 to +500,000 mA, and V_comp in 0 to 32,767 mV (the law of R38). -/
def Obligations.MeasurementsStayInRange : Prop :=
  ∀ s t : State, s.sense.pub.lawful → step s = .next t → t.sense.pub.lawful

/-! ## Reserve -/

/-- The run counters at a sample tick (R51, R52). MODEL'S CHOICE (log 5): a sync or a re-anchor that R51, R52 and R55 carry
out at this publication is made due, and Q stays until FULL_SYNC or REST_RE_ANCHOR takes it. -/
def Obligations.SampleTickStepsRunCounters : Prop :=
  ∀ (s : State) (code : BitVec 12), s.powered = true → .sample ∈ s.due → ∃ t : State, exec (.sampleTick code) s = .next t
    ∧ t.reserve.q = s.reserve.q ∧ t.reserve.remainder = s.reserve.remainder
    ∧ (let p := t.sense.pub
       let full := s.meter.fullVoltage ≤ p.sensed ∧ p.valid = true ∧ p.filtered ≤ 0 ∧ -p.filtered ≤ s.meter.tailCurrent
       let rest := p.filtered.natAbs ≤ s.meter.restCurrent
       let fullLimit := s.meter.fullTime * 240
       let restLimit := s.meter.restTime * 240
       (full → s.reserve.fullRun < fullLimit → t.reserve.fullRun = s.reserve.fullRun + 1)
       ∧ (full → fullLimit ≤ s.reserve.fullRun → t.reserve.fullRun = fullLimit)
       ∧ (¬full → t.reserve.fullRun = 0)
       ∧ (t.reserve.syncDue = true ↔ full ∧ s.reserve.fullRun + 1 = fullLimit)
       ∧ (rest → s.reserve.restRun < restLimit → t.reserve.restRun = s.reserve.restRun + 1)
       ∧ (rest → restLimit ≤ s.reserve.restRun → t.reserve.restRun = restLimit)
       ∧ (¬rest → t.reserve.restRun = 0)
       ∧ (t.reserve.reanchorDue = true ↔ (rest ∧ s.reserve.restRun + 1 = restLimit) ∧ t.reserve.syncDue = false))

/-- FULL_SYNC: the sync sets Q to C with remainder 0, and sets ANCHORED (R51). MODEL'S CHOICE: it takes the sync that the
sample tick made due (log 5), and changes nothing when none is due (log 1). -/
def Obligations.FullSyncSetsCapacity : Prop :=
  ∀ s : State, s.powered = true →
    (s.reserve.syncDue = false → exec .fullSync s = .next s)
    ∧ (s.reserve.syncDue = true → exec .fullSync s = .next { s with
        reserve := { s.reserve with q := some (s.meter.capacity * 3600000), remainder := 0, syncDue := false }
        port := s.port.withFlag 5 })

/-- The rest table maps a voltage to a fraction: the end points outside the table, the straight line within a segment, and
never outside the segment's fractions (R53). -/
def Obligations.RestTableMapsByStraightLines : Prop :=
  ∀ (table : Vector Point 8) (v : Nat), restLawful table →
    (v ≤ table[0].voltage → mapRest table v = table[0].fraction)
    ∧ (table[7].voltage ≤ v → mapRest table v = table[7].fraction)
    ∧ (∀ i : Fin 7, table[i.castSucc].voltage ≤ v → v < table[i.succ].voltage →
        mapRest table v = table[i.castSucc].fraction
          + (v - table[i.castSucc].voltage) * (table[i.succ].fraction - table[i.castSucc].fraction)
            / (table[i.succ].voltage - table[i.castSucc].voltage)
        ∧ table[i.castSucc].fraction ≤ mapRest table v ∧ mapRest table v ≤ table[i.succ].fraction)

/-- REST_RE_ANCHOR: the re-anchor sets Q from the mapped fraction while unanchored, and while anchored if the drift is
beyond the tolerance (R54). MODEL'S CHOICE: it takes the re-anchor that the sample tick made due (log 5), and changes
nothing when none is due (log 1). -/
def Obligations.RestReAnchorSetsReserve : Prop :=
  ∀ s : State, s.powered = true →
    (s.reserve.reanchorDue = false → exec .restReAnchor s = .next s)
    ∧ (s.reserve.reanchorDue = true →
      (s.reserve.q = none → exec .restReAnchor s = .next { s with
        reserve := { s.reserve with
          q := some (mapRest s.rest s.sense.pub.sensed * (s.meter.capacity * 3600000) / 1000)
          remainder := 0, reanchorDue := false }
        port := s.port.withFlag 5 })
      ∧ ∀ q : Nat, s.reserve.q = some q →
        ((s.meter.restTolerance : Int) <
            |((q * 1000 / (s.meter.capacity * 3600000) : Nat) : Int) - (mapRest s.rest s.sense.pub.sensed : Nat)| →
          exec .restReAnchor s = .next { s with
            reserve := { s.reserve with
              q := some (mapRest s.rest s.sense.pub.sensed * (s.meter.capacity * 3600000) / 1000)
              remainder := 0, reanchorDue := false }
            port := s.port.withFlag 5 })
        ∧ (|((q * 1000 / (s.meter.capacity * 3600000) : Nat) : Int) - (mapRest s.rest s.sense.pub.sensed : Nat)|
            ≤ (s.meter.restTolerance : Int) →
          exec .restReAnchor s = .next { s with reserve := { s.reserve with reanchorDue := false } }))

/-- While anchored, Q lies in 0 to C and the remainder in 0 to 999 (the law of R46), over a lawful meter profile and rest
table, which stay lawful too (R41, R59, R60). -/
def Obligations.ReserveStaysWithinCapacity : Prop :=
  ∀ s t : State, s.reserveLaw → restLawful s.rest → s.meter.lawful → step s = .next t →
    t.reserveLaw ∧ restLawful t.rest ∧ t.meter.lawful

/-- SET_RESERVE and CLEAR_ANCHOR (R56, R57), with the pointer and the last-command record (R170, R175, R176). MODEL'S CHOICE
(log 14): an armed mask survives where the pointer already stands on the record. -/
def Obligations.ReserveCommandsSetAndClear : Prop :=
  ∀ (s : State) (argument : Vector Byte 4), s.powered = true → s.startup.ready = true →
    exec (.setReserve argument) s = .next { s with
      reserve := { s.reserve with
        q := some (min (argumentWord argument).toNat 1000 * (s.meter.capacity * 3600000) / 1000), remainder := 0 }
      port := s.port.afterCommand 2 0xFF 0x01 }
    ∧ ∃ t : State, exec (.clearAnchor argument) s = .next t
      ∧ t = { s with reserve := t.reserve, port := s.port.afterCommand 3 0xFF 0x01 }
      ∧ t.reserve.q = none ∧ t.reserve.remainder = 0 ∧ t.reserve.fullRun = 0 ∧ t.reserve.restRun = 0

/-! ## The profiles -/

/-- METER_PROFILE_COMMIT (R41, R58, R59, R171, R174): while SETUP is asserted the written fields are taken, clamped, and a Q
above the new capacity becomes it; while it is released nothing is taken, and a clamped value that differs marks REFUSED.
MODEL'S CHOICE (log 14): the commit sets the pointer only where it does not already stand on the record. -/
def Obligations.MeterProfileCommitTakesOrRefuses : Prop :=
  ∀ (s : State) (d : Vector Byte 32), s.powered = true → s.startup.ready = true →
    let named := fun item : Nat => match s.port.mask with
      | none => true
      | some m => m.getLsbD item
    let pick := fun (item lo hi v held : Nat) => if named item = true then max lo (min hi v) else held
    let p : Meter :=
      ⟨pick 0 1 1000 (be16 d[0] d[1]).toNat s.meter.capacity, pick 2 100 60000 (be16 d[2] d[3]).toNat s.meter.pulseWeight,
       pick 4 800 1000 (be16 d[4] d[5]).toNat s.meter.efficiency, pick 6 0 1000 (be16 d[6] d[7]).toNat s.meter.resistance,
       pick 8 1 1500 (be16 d[8] d[9]).toNat s.meter.quietTime, pick 10 0 7 d[10].toNat s.meter.filterShift,
       pick 11 1 240 d[11].toNat s.meter.restTime, pick 12 0 65535 (be16 d[12] d[13]).toNat s.meter.restCurrent,
       pick 14 0 1000 (be16 d[14] d[15]).toNat s.meter.restTolerance,
       pick 16 0 32767 (be16 d[16] d[17]).toNat s.meter.fullVoltage,
       pick 18 0 65535 (be16 d[18] d[19]).toNat s.meter.tailCurrent, pick 20 1 60 d[20].toNat s.meter.fullTime⟩
    (s.setup.level = true → exec (.meterProfileCommit d) s = .next { s with
      meter := p
      reserve := match s.reserve.q with
        | some q => if p.capacity * 3600000 < q
            then { s.reserve with q := some (p.capacity * 3600000), remainder := 0 } else s.reserve
        | none => s.reserve
      port := { s.port.afterRecord .profile 0 1 with mask := none } })
    ∧ (s.setup.level = false → exec (.meterProfileCommit d) s = .next { s with
      port := { s.port.afterRecord .profile 0 1 with
        mask := none, refusedMark := s.port.refusedMark || decide (p ≠ s.meter) } })

/-- BUDGET_PROFILE_COMMIT (R69 to R72, R171, R174): the written fields are taken with the two relational corrections, and
the held A is brought under a lowered A_max; while SETUP is released nothing is taken. MODEL'S CHOICE (log 14): the commit
sets the pointer only where it does not already stand on the record. -/
def Obligations.BudgetProfileCommitTakesOrRefuses : Prop :=
  ∀ (s : State) (d : Vector Byte 32), s.powered = true → s.startup.ready = true →
    let named := fun item : Nat => match s.port.mask with
      | none => true
      | some m => m.getLsbD item
    let pick := fun (item lo hi v held : Nat) => if named item = true then max lo (min hi v) else held
    let p : Budget :=
      ⟨pick 0 0 32767 (be16 d[0] d[1]).toNat s.budget.vOk, pick 2 0 32767 (be16 d[2] d[3]).toNat s.budget.vCut,
       pick 4 0 1000 (be16 d[4] d[5]).toNat s.budget.fFull, pick 6 0 1000 (be16 d[6] d[7]).toNat s.budget.fFloor,
       pick 8 1 65535 (be16 d[8] d[9]).toNat s.budget.aMax, pick 10 0 65535 (be16 d[10] d[11]).toNat s.budget.margin,
       pick 12 1 60 d[12].toNat s.budget.spacing, pick 13 1 60 d[13].toNat s.budget.cutHoldOff,
       pick 14 10 250 d[14].toNat s.budget.debounce⟩
    let corrected : Budget :=
      { p with
        fFull := if p.fFloor < p.fFull then p.fFull else if p.fFloor < 1000 then p.fFloor + 1 else 1000
        fFloor := if p.fFloor < p.fFull then p.fFloor else if p.fFloor < 1000 then p.fFloor else 999
        vOk := if p.vCut < p.vOk then p.vOk else if p.vCut < 32767 then p.vCut + 1 else 32767
        vCut := if p.vCut < p.vOk then p.vCut else if p.vCut < 32767 then p.vCut else 32766 }
    (s.setup.level = true → exec (.budgetProfileCommit d) s = .next { s with
      budget := corrected
      engine := { s.engine with allowance := min s.engine.allowance (p.aMax * 10) }
      port := { s.port.afterRecord .profile 1 2 with mask := none } })
    ∧ (s.setup.level = false → exec (.budgetProfileCommit d) s = .next { s with
      port := { s.port.afterRecord .profile 1 2 with
        mask := none, refusedMark := s.port.refusedMark || decide (p ≠ s.budget) } })

/-- REST_TABLE_COMMIT (R60, R171, R174): the proposed table is taken whole or refused whole. MODEL'S CHOICE (log 14): the
commit sets the pointer only where it does not already stand on the record. -/
def Obligations.RestTableCommitTakesWholeOrRefuses : Prop :=
  ∀ (s : State) (d : Vector Byte 32), s.powered = true → s.startup.ready = true →
    let named := fun item : Nat => match s.port.mask with
      | none => true
      | some m => m.getLsbD item
    ∃ p : Vector Point 8,
      (∀ i : Fin 8, p[i] =
        ⟨if named (4 * i.val) = true then min 32767 (be16 d[4 * i.val] d[4 * i.val + 1]).toNat else s.rest[i].voltage,
         if named (4 * i.val + 2) = true then min 1000 (be16 d[4 * i.val + 2] d[4 * i.val + 3]).toNat
          else s.rest[i].fraction⟩)
      ∧ (s.setup.level = true →
          (∀ i : Fin 7, p[i.castSucc].voltage < p[i.succ].voltage ∧ p[i.castSucc].fraction ≤ p[i.succ].fraction) →
          exec (.restTableCommit d) s = .next { s with
            rest := p, port := { s.port.afterRecord .profile 2 0 with mask := none } })
      ∧ (s.setup.level = true →
          ¬(∀ i : Fin 7, p[i.castSucc].voltage < p[i.succ].voltage ∧ p[i.castSucc].fraction ≤ p[i.succ].fraction) →
          exec (.restTableCommit d) s = .next { s with
            port := { s.port.afterRecord .profile 2 0 with mask := none, refusedMark := true } })
      ∧ (s.setup.level = false → exec (.restTableCommit d) s = .next { s with
          port := { s.port.afterRecord .profile 2 0 with
            mask := none, refusedMark := s.port.refusedMark || decide (p ≠ s.rest) } })

/-- A stays within A_max, and the budget profile within its ranges with F_full above F_floor and V_ok above V_cut (the laws
of R66 and R71). -/
def Obligations.AllowanceStaysWithinItsGreatest : Prop :=
  ∀ s t : State, s.allowanceLaw → s.budget.lawful → step s = .next t → t.allowanceLaw ∧ t.budget.lawful

/-! ## The evaluation -/

/-- E1 (R63 to R66): A is the smaller of the two ramps while anchored, and the voltage's alone otherwise; a second tick
taken in LOADING passes with no evaluation (R107, 12.3). MODEL'S CHOICE (log 7): the evaluation of a second tick is due
until it is taken. -/
def Obligations.EvaluationFormsAllowance : Prop :=
  ∀ s : State, s.powered = true →
    (.evaluation ∈ s.due → s.startup.ready = false → exec .evaluation s = .next (s.without .evaluation))
    ∧ (.evaluation ∈ s.due → s.startup.ready = true → s.budget.lawful →
      let top := s.budget.aMax * 10
      let fromVoltage := if s.budget.vOk ≤ s.sense.pub.comp then top
        else if s.sense.pub.comp ≤ s.budget.vCut then 0
        else top * (s.sense.pub.comp - s.budget.vCut) / (s.budget.vOk - s.budget.vCut)
      let fromReserve := fun f : Nat => if s.budget.fFull ≤ f then top else if f ≤ s.budget.fFloor then 0
        else top * (f - s.budget.fFloor) / (s.budget.fFull - s.budget.fFloor)
      ∃ t : State, exec .evaluation s = .next t
        ∧ (s.reserve.q = none → t.engine.allowance = fromVoltage)
        ∧ (∀ q : Nat, s.reserve.q = some q →
            t.engine.allowance = min (fromReserve (q * 1000 / (s.meter.capacity * 3600000))) fromVoltage)
        ∧ t.engine.allowance ≤ top
        ∧ t = { s.without .evaluation with
            loads := t.loads, engine := t.engine, port := { s.port with flags := t.port.flags } })

/-- The deficit walk (R110 to R115): a candidate is cut or deferred exactly when the walk is free and the draw, less what the
candidates before it in shed order relieved, still exceeds A; it is then cut if a cut is possible now, and deferred
otherwise; a candidate not reached is left as it is. -/
def Obligations.WalkActsExactlyOnTheDeficit : Prop :=
  ∀ (s t : State) (n : Channel), s.powered = true → .evaluation ∈ s.due → s.startup.ready = true → s.listsInOrder →
    exec .evaluation s = .next t → s.isCandidate n = true →
    let a := t.engine.allowance
    let reached := s.walkFree a ∧ (a : Int) < s.sense.pub.filtered - (s.reliefBefore a n : Nat)
    (reached → s.cutNow a n = true →
      (∃ why : StandbyReason, t.load n = { (s.load n).cutStandby false true with reason := .standby why })
      ∧ t.flag .shed = true)
    ∧ (reached → s.cutNow a n = false →
        t.load n = (s.load n).deferredByWalk (s.held (s.load n).holdLine) a)
    ∧ (¬reached → (s.load n).sameButWindow n t)

/-- No class 0 record is cut or deferred by an evaluation (the law of R115), nor is a record DEFERRED with cause
REQUEST_OFF; and a record in VACANT, IDLE, TRIPPED or LOCKED, on which no stage acts (R107), is left as it is. -/
def Obligations.EvaluationLeavesEssentialsOn : Prop :=
  ∀ (s t : State) (n : Channel), s.powered = true → .evaluation ∈ s.due → s.startup.ready = true → s.recordsLaw →
    exec .evaluation s = .next t →
    ((s.load n).on = true ∧ ((s.load n).cls = 0 ∨ (s.load n).reason = .deferred .requestOff))
      ∨ (s.load n).state ∈ [.vacant, .idle, .tripped, .locked] →
    (s.load n).sameButWindow n t

/-- The depleted stage (R116): at A = 0 a BUDGET deferral loses its min-on wait, and is cut if it waits on nothing else; at an
A above 0 it is left as it is (R117). -/
def Obligations.DepletedStageDropsMinOnWaits : Prop :=
  ∀ (s t : State) (n : Channel), s.powered = true → .evaluation ∈ s.due → s.startup.ready = true → s.listsInOrder →
    exec .evaluation s = .next t → (s.load n).reason = .deferred .budget →
    (t.engine.allowance ≠ 0 → t.load n = s.load n)
    ∧ (t.engine.allowance = 0 → (s.load n).waitHold = true → t.load n = { s.load n with waitMinOn := false })
    ∧ (t.engine.allowance = 0 → (s.load n).waitHold = false →
        (∃ why : StandbyReason, t.load n = { (s.load n).cutStandby false true with reason := .standby why })
        ∧ t.flag .shed = true)

/-- The restore (R118 to R120): a record that stood in STANDBY is started exactly when it is the first of its list that may be
restored, it fits below A less H, and nothing blocks; it is then STARTING with its settle timer set and dwell 0. -/
def Obligations.RestoreStartsTheCandidateThatFits : Prop :=
  ∀ (s t : State) (n : Channel), s.powered = true → .evaluation ∈ s.due → s.startup.ready = true → s.listsInOrder →
    exec .evaluation s = .next t → (s.load n).state = .standby →
    let a := t.engine.allowance
    let starts := s.engine.standbyList.find? s.mayRestore = some n ∧ s.budget.margin * 10 ≤ a
      ∧ s.sense.pub.filtered + ((s.load n).learnedDraw.getD (s.load n).declaredDraw * 10 : Nat)
          ≤ (a : Int) - (s.budget.margin * 10 : Nat)
      ∧ (∀ m : Channel, (s.load m).state ≠ .starting) ∧ (∀ m : Channel, (s.load m).reason ≠ .deferred .budget)
      ∧ s.budget.spacing ≤ s.engine.spacing ∧ s.engine.exhausted = false
    (starts → t.load n = { s.load n with
        state := .starting, shed := false, reason := .none, dwell := 0, settleTimer := (s.load n).settleTime
        startStamp := some s.engine.seq, blanking := 20, diagRun := 0
        window := if (s.load n).learnEnable then
            .settling ⟨s.sense.pub.current, s.sense.pub.valid, s.sense.dir, t.outputs⟩ else .closed }
      ∧ t.engine.runList = s.engine.runList ++ [n] ∧ n ∉ t.engine.standbyList)
    ∧ (¬starts → (t.load n).state = .standby ∧ n ∈ t.engine.standbyList
        ∧ ({ s.load n with reason := (t.load n).reason }).sameButWindow n t)

/-- E6 (R123): the reason of every record that stands in STANDBY after an evaluation; HELD_BACK and BUDGET are shown by the
restore candidate alone, HELD_BACK where it fits. The start test takes the draw that each cut of the same evaluation has
lowered by the effective draw of the record cut (R110). -/
def Obligations.EvaluationRefreshesReasons : Prop :=
  ∀ (s t : State) (n : Channel), s.powered = true → .evaluation ∈ s.due → s.startup.ready = true → s.listsInOrder →
    exec .evaluation s = .next t → (t.load n).state = .standby →
    let cutDraw := ((channels.filter fun m => (s.load m).on && !(t.load m).on).map fun m =>
      (s.load m).learnedDraw.getD (s.load m).declaredDraw * 10).sum
    let started := ∃ m : Channel, (s.load m).state = .standby ∧ (t.load m).state = .starting
    (t.forceOff.level = true → (t.load n).reason = .standby .forced)
    ∧ (t.forceOff.level = false → (t.load n).dwell < (t.load n).minOff → (t.load n).reason = .standby .minOff)
    ∧ (t.forceOff.level = false → (t.load n).minOff ≤ (t.load n).dwell →
        (¬started ∧ t.engine.standbyList.find? t.mayRestore = some n →
          ((t.load n).reason = .standby .heldBack ∨ (t.load n).reason = .standby .budget)
          ∧ ((t.load n).reason = .standby .heldBack ↔ s.budget.margin * 10 ≤ t.engine.allowance
              ∧ s.sense.pub.filtered - (cutDraw : Nat) + ((s.load n).learnedDraw.getD (s.load n).declaredDraw * 10 : Nat)
                  ≤ (t.engine.allowance : Int) - (s.budget.margin * 10 : Nat)))
        ∧ (¬(¬started ∧ t.engine.standbyList.find? t.mayRestore = some n) → (t.load n).reason = .standby .queued))

/-- The budget level that an evaluation sets (R125), and that no other event but a start-up's beginning or a loss of power
changes. -/
def Obligations.BudgetLevelFollowsItsTable : Prop :=
  (∀ s : State, s.powered = true → .evaluation ∈ s.due → s.startup.ready = true → ∃ t : State, exec .evaluation s = .next t
    ∧ (let shedding := ∃ n : Channel, ((t.load n).state = .standby ∧ (t.load n).shed = true)
        ∨ ((t.load n).state = .deferred ∧ (t.load n).reason = .deferred .budget)
       let tight := ∃ n : Channel, (t.load n).state = .standby ∧ ((t.load n).reason = .standby .budget
        ∨ (t.load n).reason = .standby .queued ∨ (t.load n).reason = .standby .heldBack)
       (t.engine.allowance = 0 → t.engine.level = .depleted)
       ∧ (t.engine.allowance ≠ 0 → shedding → t.engine.level = .shedding)
       ∧ (t.engine.allowance ≠ 0 → ¬shedding → tight → t.engine.level = .tight)
       ∧ (t.engine.allowance ≠ 0 → ¬shedding → ¬tight → t.engine.level = .ample))
    ∧ (t.flag .depleted = true ↔
        s.flag .depleted = true ∨ (t.engine.level = .depleted ∧ s.engine.level ≠ .depleted)))
  ∧ ∀ (c : Instr) (s t : State), exec c s = .next t → c ≠ .evaluation → (∀ a b, c ≠ .powerOn a b) →
      (∀ cut, c ≠ .lossOfPower cut) → (∀ a, c ≠ .restart a) → (∀ i, c ≠ .saveCompletion i) →
      t.engine.level = s.engine.level

/-- The close (R121, R122), and what else an evaluation leaves of the counters and the flags: the spacing counter and the
cut hold-off timer; one stamp is issued exactly if a record was started (R90, R98); SHED is set exactly if a record was cut,
and so not by a deferral (R100, R114), DEPLETED exactly on the entry (R126), and every other flag stays (R180). -/
def Obligations.EvaluationClosesTheCounters : Prop :=
  ∀ s t : State, s.powered = true → .evaluation ∈ s.due → s.startup.ready = true → s.listsInOrder →
    exec .evaluation s = .next t →
    let started := ∃ n : Channel, (s.load n).state = .standby ∧ (t.load n).state = .starting
    let cut := ∃ n : Channel, (s.load n).on = true ∧ (t.load n).on = false
    let depleted := t.engine.level = .depleted ∧ s.engine.level ≠ .depleted
    (started → t.engine.spacing = 1 ∧ t.engine.seq = s.engine.stamped.seq
      ∧ t.engine.exhausted = s.engine.stamped.exhausted)
    ∧ (¬started → t.engine.spacing = min (s.engine.spacing + 1) 255 ∧ t.engine.seq = s.engine.seq
      ∧ t.engine.exhausted = s.engine.exhausted)
    ∧ (cut → t.engine.holdOff = s.budget.cutHoldOff - 1)
    ∧ (¬cut → t.engine.holdOff = s.engine.holdOff - 1)
    ∧ t.port.flags = s.port.flags ||| (if cut then 0x01 else 0x00) ||| (if depleted then 0x02 else 0x00)

/-! ## Second ticks -/

/-- DWELL_INCREMENT, SETTLE_END and CLEAN_RUN (R22, R99, R153, R160). MODEL'S CHOICE (log 3): the work of a second tick is
sent in these parts, so that DWELL_INCREMENT leaves every other count, and SETTLE_END and CLEAN_RUN make the count of one
record, and nothing at a record that has none (log 1). -/
def Obligations.SecondTickStepsDwellSettleAndCleanRun : Prop :=
  ∀ (s : State) (n : Channel), s.powered = true →
    let r := s.load n
    (.dwell ∈ s.due → ∃ t : State, exec .dwellIncrement s = .next t ∧ t = { s.without .dwell with loads := t.loads }
      ∧ ∀ m : Channel, t.load m = if (s.load m).state = .vacant then s.load m
          else { s.load m with dwell := min ((s.load m).dwell + 1) 65535 })
    ∧ (.settle n ∈ s.due →
      let u := s.without (.settle n)
      (r.state = .starting → 1 < r.settleTimer →
        exec (.settleEnd n) s = .next (u.withLoad n { r with settleTimer := r.settleTimer - 1 }))
      ∧ (r.state = .starting → r.settleTimer ≤ 1 →
        exec (.settleEnd n) s = .next (u.withLoad n { r with
          state := .running, settleTimer := 0, cleanRun := 0
          window := match r.window with
            | .closed => .closed
            | .settling o => .closing o
            | .closing o => .closing o }))
      ∧ (r.state ≠ .starting → exec (.settleEnd n) s = .next u))
    ∧ (.cleanRun n ∈ s.due →
      let u := s.without (.cleanRun n)
      (r.state = .running → exec (.cleanRun n) s = .next (u.withLoad n { r with
          cleanRun := min (r.cleanRun + 1) 300, retriesUsed := if r.cleanRun = 299 then 0 else r.retriesUsed }))
      ∧ (r.state ≠ .running → exec (.cleanRun n) s = .next u))

/-- HOLD_LIMIT_EXPIRY and MIN_ON_REACHED (R132, R134 to R136): the end of either wait, which cuts the record when no wait is
left. At a record without its wait, and so at every record that is not DEFERRED (R20, R131), each only takes its piece of
the second tick. MODEL'S CHOICE (log 3): HOLD_LIMIT_EXPIRY is the countdown of one record at a second tick, a decrement
before its expiry, and MIN_ON_REACHED the check of one record; neither does anything at a record without its wait (log 1).
-/
def Obligations.WaitEndsCutWhenNoWaitIsLeft : Prop :=
  ∀ (s : State) (n : Channel), s.powered = true →
    let r := s.load n
    (.holdLimit n ∈ s.due →
      let u := s.without (.holdLimit n)
      (r.waitHold = false → exec (.holdLimitExpiry n) s = .next u)
      ∧ (r.state ≠ .deferred → s.recordsLaw → exec (.holdLimitExpiry n) s = .next u)
      ∧ (r.state = .deferred → r.waitHold = true → 1 < r.holdTimer →
        exec (.holdLimitExpiry n) s = .next (u.withLoad n { r with holdTimer := r.holdTimer - 1 }))
      ∧ (r.state = .deferred → r.waitHold = true → r.holdTimer ≤ 1 → ∃ t : State, exec (.holdLimitExpiry n) s = .next t ∧ s.othersSame n t
        ∧ (r.waitMinOn = true → t = { u with loads := t.loads, port := s.port.withFlag 4 }
            ∧ ({ r with waitHold := false, holdTimer := 0 }).sameButWindow n t)
        ∧ (r.waitMinOn = false → u.cutsDeferred n (s.port.flags ||| 0x10) t)))
    ∧ (.minOn n ∈ s.due →
      let u := s.without (.minOn n)
      (r.waitMinOn = false ∨ r.dwell < r.minOn → exec (.minOnReached n) s = .next u)
      ∧ (r.state ≠ .deferred → s.recordsLaw → exec (.minOnReached n) s = .next u)
      ∧ (r.state = .deferred → r.waitMinOn = true → r.minOn ≤ r.dwell → ∃ t : State, exec (.minOnReached n) s = .next t ∧ s.othersSame n t
        ∧ (r.waitHold = true → t = { u with loads := t.loads }
            ∧ ({ r with waitMinOn := false }).sameButWindow n t)
        ∧ (r.waitHold = false → u.cutsDeferred n s.port.flags t)))

/-- RETRY_EXPIRY (R152): the end of the retry of a TRIPPED record; retries used keeps its value, and with the counter
exhausted an essential waits in STANDBY (R90). MODEL'S CHOICE (log 3): the command is the countdown of one record at a
second tick, a decrement before its expiry, and nothing at a record that is not TRIPPED (log 1), which alone holds a retry
timer (R150; the law of ListsStampsAndRecordsStayInOrder). -/
def Obligations.RetryExpiryLeavesTripped : Prop :=
  ∀ (s : State) (n : Channel), s.powered = true → .retry n ∈ s.due → s.listLaw →
    let r := s.load n
    let u := s.without (.retry n)
    (r.state ≠ .tripped ∨ r.retryTimer = none → exec (.retryExpiry n) s = .next u)
    ∧ ∀ k : Nat, r.state = .tripped → r.retryTimer = some k →
      (1 < k → exec (.retryExpiry n) s = .next (u.withLoad n { r with retryTimer := some (k - 1) }))
      ∧ (k ≤ 1 → ∃ t : State, exec (.retryExpiry n) s = .next t ∧ s.othersSame n t
          ∧ t = { u with loads := t.loads, engine := t.engine } ∧ s.endsRetry n r t)

/-- MIN_OFF_EXPIRY and FORCE_OFF_RELEASE (R90, R102, R103, R145, R147): the eligible class 0 records of the Standby List are
started, in its order, as far as stamps are left, and no other record; the window of the last one started stays open (R164).
While FORCE_OFF is asserted none is eligible, and in LOADING no check is made. MODEL'S CHOICE: the release is due at a held
run count of 10 (log 4), and one that is not due changes nothing (log 1); MIN_OFF_EXPIRY is its own part of a second tick
(log 3, log 7). -/
def Obligations.EssentialChecksStartEveryEligibleEssential : Prop :=
  ∀ s : State, s.powered = true → s.listsInOrder →
    (s.forceOff.run ≠ 10 ∨ s.forceOff.level = false → exec .forceOffRelease s = .next s)
    ∧ (.minOff ∈ s.due → s.startup.ready = false → exec .minOffExpiry s = .next (s.without .minOff))
    ∧ ∀ check : Bool, (if check then .minOff ∈ s.due ∧ s.startup.ready = true
        else s.forceOff.run = 10 ∧ s.forceOff.level = true) →
      let u := if check then s.without .minOff else { s with forceOff := ⟨false, 0⟩ }
      let due := fun n : Channel =>
        !u.forceOff.level && (s.load n).cls == 0 && decide ((s.load n).minOff ≤ (s.load n).dwell)
      let left := if s.engine.exhausted then 0 else 4294967296 - s.engine.seq
      let started := (s.engine.standbyList.filter due).take left
      ∃ t : State, exec (if check then .minOffExpiry else .forceOffRelease) s = .next t
        ∧ t = { u with loads := t.loads, engine := { s.engine with
            runList := s.engine.runList ++ started
            standbyList := s.engine.standbyList.filter fun n => !started.contains n
            seq := min (s.engine.seq + started.length) 4294967295
            exhausted := s.engine.exhausted || decide (4294967295 < s.engine.seq + started.length)
            spacing := if started.isEmpty then s.engine.spacing else 0 } }
        ∧ ∀ n : Channel,
          (n ∈ started →
            let r := (s.load n).startsNow (s.engine.seq + started.idxOf n) s t
            t.load n = if started.getLast? = some n then r else { r with window := .closed })
          ∧ (n ∉ started → (s.load n).sameButWindow n t)

/-! ## Lines, faults and requests -/

/-- LINE_TICK (R7, R76, R129, R145, R149) with the debounce and the first levels of start-up (R89), and SETUP_LEVEL_CHANGE
and HOLD_ASSERTION, which act on no record (R7, R130). MODEL'S CHOICE: a count that is complete is held and the level stays
at that line tick, the change being a command of its own (log 4), which changes nothing when it is not due (log 1). -/
def Obligations.LineTickCountsSamplesAndLevelsFollow : Prop :=
  (∀ (s : State) (l : LineLevels), s.powered = true → .line ∈ s.due → ∃ t : State, exec (.lineTick l) s = .next t
    ∧ t = { s.without .line with
        switches := t.switches, holds := t.holds, forceOff := t.forceOff, setup := t.setup, loads := t.loads
        startup := { s.startup with ticks := if s.startup.ready then s.startup.ticks else min (s.startup.ticks + 1) 25 } }
    ∧ (let first := s.startup.ready = false ∧ s.startup.ticks = 0
       let debounce := if s.startup.ready = false ∧ s.startup.kept = none then 30 else s.budget.debounce
       let filtered := fun (raw : Bool) (f : Filter) =>
        if raw = f.level then { f with run := 0 } else { f with run := min (f.run + 1) 10 }
       (∀ n : Channel,
          let pressed := !l.sw.getLsbD n.val
          let w := s.switches[n]
          (first → t.switches[n] = ⟨pressed, 0, false⟩)
          ∧ (¬first → pressed = w.pressed → t.switches[n] = ⟨w.pressed, 0, false⟩)
          ∧ (¬first → pressed ≠ w.pressed →
              t.switches[n] = ⟨w.pressed, min (w.run + 1) 250, decide (debounce ≤ min (w.run + 1) 250)⟩))
       ∧ (∀ h : HoldLine, t.holds[h] = filtered (l.hold.getLsbD h.val) s.holds[h])
       ∧ t.setup = filtered (!l.setup) s.setup
       ∧ (first → t.forceOff = ⟨!l.forceOff, 0⟩)
       ∧ (¬first → t.forceOff = filtered (!l.forceOff) s.forceOff))
    ∧ ∀ n : Channel, t.load n =
        if (s.load n).on = false then s.load n
        else if 0 < (s.load n).blanking then { s.load n with blanking := (s.load n).blanking - 1 }
        else { s.load n with diagRun := if l.diag.getLsbD n.val then 0 else min ((s.load n).diagRun + 1) 3 })
  ∧ ∀ (s : State) (h : HoldLine), s.powered = true →
    exec .setupLevelChange s = .next (if s.setup.run = 10 then { s with setup := ⟨!s.setup.level, 0⟩ } else s)
    ∧ exec (.holdAssertion h) s = .next
        (if s.holds[h].run = 10 ∧ s.holds[h].level = false then { s with holds := s.holds.set h ⟨true, 0⟩ } else s)

/-- HOLD_RELEASE (R133, R136): the hold wait of every record that waits on the line ends, and a record that waits on nothing
else is cut by its cause; HOLD_EXPIRED is not set. The order of the lists is left to ListsStampsAndRecordsStayInOrder.
MODEL'S CHOICE: the release is due at a held run count of 10 (log 4), and one that is not due changes nothing (log 1). -/
def Obligations.HoldReleaseEndsItsWaits : Prop :=
  ∀ (s : State) (h : HoldLine), s.powered = true →
    (s.holds[h].run ≠ 10 ∨ s.holds[h].level = false → exec (.holdRelease h) s = .next s)
    ∧ (s.holds[h].run = 10 → s.holds[h].level = true → ∃ t : State, exec (.holdRelease h) s = .next t
      ∧ (let waits := fun n : Channel =>
          (s.load n).state == .deferred && (s.load n).waitHold && (s.load n).holdLine == some h
         let cuts := fun n : Channel => waits n && !(s.load n).waitMinOn && (s.load n).reason != .deferred .requestOff
         t = { s with
          holds := s.holds.set h ⟨false, 0⟩, loads := t.loads
          engine := { s.engine with
            runList := t.engine.runList, standbyList := t.engine.standbyList, holdOff := t.engine.holdOff }
          port := { s.port with flags := if channels.any cuts then s.port.flags ||| 0x01 else s.port.flags } }
         ∧ t.engine.holdOff = (if channels.any cuts then s.budget.cutHoldOff else s.engine.holdOff)
         ∧ ∀ n : Channel,
          (waits n = false → (s.load n).sameButWindow n t)
          ∧ (waits n = true → (s.load n).waitMinOn = true →
              ({ s.load n with waitHold := false, holdTimer := 0 }).sameButWindow n t)
          ∧ (waits n = true → (s.load n).waitMinOn = false → t.load n = (s.load n).cutByCause s.forceOff.level)))

/-- FORCE_OFF_ASSERTION (R146, R163): every on record goes to STANDBY with reason FORCED and its request stamp, a
REQUEST_OFF deferral to IDLE; every learn window closes, and FORCE_OFF is flagged, but not SHED. MODEL'S CHOICE: the
assertion is due at a held run count of 10 (log 4), and one that is not due changes nothing (log 1). -/
def Obligations.ForceOffAssertionCutsEveryLoad : Prop :=
  ∀ s : State, s.powered = true →
    (s.forceOff.run ≠ 10 ∨ s.forceOff.level = true → exec .forceOffAssertion s = .next s)
    ∧ (s.forceOff.run = 10 → s.forceOff.level = false → s.listLaw → ∃ t : State, exec .forceOffAssertion s = .next t
      ∧ t = { s with
          forceOff := ⟨true, 0⟩, loads := t.loads, port := s.port.withFlag 7
          engine := { s.engine with runList := [], standbyList := t.engine.standbyList } }
      ∧ ∀ n : Channel,
        ((s.load n).on = false → t.load n = { s.load n with window := .closed })
        ∧ ((s.load n).on = true → (s.load n).reason = .deferred .requestOff → t.load n = (s.load n).cutIdle)
        ∧ ((s.load n).on = true → (s.load n).reason ≠ .deferred .requestOff →
            t.load n = (s.load n).cutStandby true (s.load n).shed ∧ n ∈ t.engine.standbyList))

/-- TRIP (R150, R151): the output goes off, retries used goes up by 1, and the record is TRIPPED with its retry timer, or
LOCKED beyond the limit. MODEL'S CHOICE: the trip takes a diagnostic count held at 3 (log 4), and changes nothing at any
other count (log 1). -/
def Obligations.TripTripsOrLocks : Prop :=
  ∀ (s : State) (n : Channel), s.powered = true →
    let r := s.load n
    (r.on = false ∨ r.diagRun ≠ 3 → exec (.trip n) s = .next s)
    ∧ (r.on = true → r.diagRun = 3 → ∃ t : State, exec (.trip n) s = .next t ∧ s.othersSame n t
      ∧ t = { s with
          loads := t.loads, port := { s.port with flags := t.port.flags }
          engine := { s.engine with runList := s.engine.runList.erase n } }
      ∧ (r.retriesUsed + 1 ≤ r.retryLimit → t.port.flags = s.port.flags ||| 0x04
          ∧ t.load n = { r.outputOff with
              state := .tripped, reason := .none, retriesUsed := r.retriesUsed + 1
              requestStamp := if r.request then r.requestStamp else none
              retryTimer := some (min 3600 (r.retryBase * 2 ^ r.retriesUsed)) })
      ∧ (r.retryLimit < r.retriesUsed + 1 → t.port.flags = s.port.flags ||| 0x0C
          ∧ t.load n = { r.outputOff with
              state := .locked, reason := .none, retriesUsed := r.retriesUsed + 1, request := false
              requestStamp := none, retryTimer := none }))

/-- STABLE_LEVEL_CHANGE (R76, R77, R81 to R87, R90): the stable level changes, and the press or release sets the request
that the switch mode gives, as an arrival if that differs from the request held. MODEL'S CHOICE: the change is the one that
a line tick marked due (log 4), and one that is not due changes nothing (log 1). -/
def Obligations.SwitchChangeActsByMode : Prop :=
  ∀ (s : State) (n : Channel), s.powered = true → s.listsInOrder →
    (s.switches[n].due = false → exec (.stableLevelChange n) s = .next s)
    ∧ (s.switches[n].due = true → ∃ t : State, exec (.stableLevelChange n) s = .next t ∧ s.othersSame n t
      ∧ t = { s with
          switches := s.switches.set n ⟨!s.switches[n].pressed, 0, false⟩, loads := t.loads, engine := t.engine
          port := { s.port with refusedMark := t.port.refusedMark } }
      ∧ (let r := s.load n
         let press := !s.switches[n].pressed
         let asks := (r.switchMode = .toggle ∧ press = true ∧ r.request = false) ∨ (r.switchMode = .follow ∧ press = true)
          ∨ (r.switchMode = .onOnly ∧ press = true)
         let drops := (r.switchMode = .toggle ∧ press = true ∧ r.request = true)
          ∨ (r.switchMode = .follow ∧ press = false)
         let acts := s.startup.ready = true ∧ r.state ≠ .vacant
          ∧ ((asks ∧ r.request = false) ∨ (drops ∧ r.request = true))
         (¬acts → r.sameButWindow n t ∧ t.engine = s.engine ∧ t.port = s.port)
         ∧ (acts → asks → s.engine.exhausted = true →
            r.sameButWindow n t ∧ t.engine = s.engine ∧ t.port.refusedMark = true)
         ∧ (acts → asks → s.engine.exhausted = false → s.turnsOn n t
            ∧ t.port.refusedMark = (s.port.refusedMark || r.state == .locked))
         ∧ (acts → drops → s.turnsOff n t ∧ t.port = s.port)))

/-! ## Commits of load records -/

/-- A LOAD_COMMIT at a VACANT record (R11, R15): with SETUP asserted and enrolled written yes it enrols; any other keeps
every default and is refused where a written field differs from its default. MODEL'S CHOICE: the difference is that of the
clamped value, so a class byte of 8 to 255 marks nothing (log 32); the commit sets the pointer only where it does not
already stand on the record (log 14). -/
def Obligations.CommitAtVacantRecordEnrolsOrRefuses : Prop :=
  ∀ (s : State) (n : Channel) (d : Vector Byte 28), s.powered = true → s.startup.ready = true → s.recordsLaw →
    (s.load n).state = .vacant →
    let named := fun item : Nat => match s.port.mask with
      | none => true
      | some m => m.getLsbD item
    let enrols := s.setup.level = true ∧ named 1 = true ∧ d[1] = 0x01
    ∃ t : State, exec (.loadCommit n d) s = .next t ∧ s.othersSame n t
      ∧ t = { s with
          loads := t.loads
          port := { s.port.afterRecord .load n.val (if n.val = 11 then 0 else n.val + 1) with
            mask := none, refusedMark := t.port.refusedMark } }
      ∧ (enrols → t.load n = { ({} : Load) with
            state := .idle
            cls := if named 2 then min d[2].toNat 7 else 7
            declaredDraw := if named 4 then max 1 (min 65534 (be16 d[4] d[5]).toNat) else 100
            settleTime := if named 8 then max 1 (min 60 d[8].toNat) else 2
            switchMode := if named 9 then (switchModeOfCode d[9]).getD .none else .none
            holdLine := if named 10 then (holdLineOfCode d[10]).getD none else none
            learnEnable := if named 11 then (flagOfCode d[11]).getD true else true
            minOn := if named 12 then min (be16 d[12] d[13]).toNat 3600 else 0
            minOff := if named 14 then min (be16 d[14] d[15]).toNat 3600 else 0
            holdLimit := if named 16 then max 1 (min 3600 (be16 d[16] d[17]).toNat) else 600
            retryLimit := if named 18 then min d[18].toNat 7 else 3
            retryBase := if named 19 then max 1 d[19].toNat else 5
            restartPolicy := if named 20 then (restartPolicyOfCode d[20]).getD .startOff else .startOff }
          ∧ (d[3].toNat < 2 ∧ d[9].toNat < 4 ∧ d[10].toNat < 5 ∧ d[11].toNat < 2 ∧ d[20].toNat < 2 →
              t.port.refusedMark = s.port.refusedMark))
      ∧ (¬enrols → t.load n = {}
          ∧ (t.port.refusedMark = true ↔ s.port.refusedMark = true
              ∨ (named 1 = true ∧ d[1] ≠ 0x00) ∨ (named 2 = true ∧ d[2].toNat < 7) ∨ (named 3 = true ∧ d[3] ≠ 0x00)
              ∨ (named 4 = true ∧ (be16 d[4] d[5]).toNat ≠ 100) ∨ (named 8 = true ∧ d[8].toNat ≠ 2)
              ∨ (named 9 = true ∧ d[9] ≠ 0x00) ∨ (named 10 = true ∧ d[10] ≠ 0x00) ∨ (named 11 = true ∧ d[11] ≠ 0x01)
              ∨ (named 12 = true ∧ (be16 d[12] d[13]).toNat ≠ 0) ∨ (named 14 = true ∧ (be16 d[14] d[15]).toNat ≠ 0)
              ∨ (named 16 = true ∧ (be16 d[16] d[17]).toNat ≠ 600) ∨ (named 18 = true ∧ d[18].toNat ≠ 3)
              ∨ (named 19 = true ∧ d[19].toNat ≠ 5) ∨ (named 20 = true ∧ d[20] ≠ 0x00)))

/-- Retirement (R16): with SETUP asserted and enrolled written no, an enrolled record returns to its defaults and leaves its
list; its output goes off. MODEL'S CHOICE (log 14): the commit sets the pointer only where it does not already stand on the
record. -/
def Obligations.RetirementReturnsDefaults : Prop :=
  ∀ (s : State) (n : Channel) (d : Vector Byte 28), s.powered = true → s.startup.ready = true → s.setup.level = true →
    (s.load n).state ≠ .vacant → d[1] = 0x00 → (s.port.mask.all fun m => m.getLsbD 1) = true →
    ∃ t : State, exec (.loadCommit n d) s = .next t ∧ t.load n = {} ∧ t.outputs[n] = false ∧ s.othersSame n t
      ∧ t = { s with
          loads := t.loads
          engine := { s.engine with
            runList := s.engine.runList.erase n, standbyList := s.engine.standbyList.erase n }
          port := { s.port.afterRecord .load n.val (if n.val = 11 then 0 else n.val + 1) with
            mask := none, refusedMark := t.port.refusedMark } }
      ∧ (d[3].toNat < 2 ∧ d[9].toNat < 4 ∧ d[10].toNat < 5 ∧ d[11].toNat < 2 ∧ d[20].toNat < 2 →
          t.port.refusedMark = s.port.refusedMark)

/-- A LOAD_COMMIT that leaves an enrolled record enrolled (R6, R8, R9, R13, R14, R174): the INSTALL fields are taken,
clamped, while SETUP is asserted and kept while it is released; learn enable is taken always; the learned draw never. A
commit that changes neither class nor request, ends no hold wait and enters FOLLOW at no other level than the request hands
on no event: beside these fields and the adjusted retries, the record (its intervals already running among it), the engine
and the flags stay. REFUSED is marked exactly for an INSTALL field that differs while SETUP is released, an unknown code, a
refused class (R10, R21), and an arrival of ON at a LOCKED record or with the counter exhausted (R87, R90), written or by
the entry into FOLLOW (R78); the premise of that clause leaves the stamps that one commit can use. MODEL'S CHOICE (log 14):
the commit sets the pointer only where it does not already stand on the record. -/
def Obligations.LoadCommitTakesFieldsByWriteClass : Prop :=
  ∀ (s : State) (n : Channel) (d : Vector Byte 28), s.powered = true → s.startup.ready = true →
    (s.load n).state ≠ .vacant →
    let named := fun item : Nat => match s.port.mask with
      | none => true
      | some m => m.getLsbD item
    let takes := fun item : Nat => s.setup.level && named item
    let r := s.load n
    ¬(takes 1 = true ∧ d[1] = 0x00) →
    ∃ t : State, exec (.loadCommit n d) s = .next t ∧ s.othersSame n t
      ∧ t = { s with
          loads := t.loads, engine := t.engine
          port := { s.port.afterRecord .load n.val (if n.val = 11 then 0 else n.val + 1) with
            mask := none, refusedMark := t.port.refusedMark, flags := t.port.flags } }
      ∧ (t.load n).declaredDraw = (if takes 4 then max 1 (min 65534 (be16 d[4] d[5]).toNat) else r.declaredDraw)
      ∧ (t.load n).settleTime = (if takes 8 then max 1 (min 60 d[8].toNat) else r.settleTime)
      ∧ (t.load n).switchMode = (if takes 9 then (switchModeOfCode d[9]).getD r.switchMode else r.switchMode)
      ∧ (t.load n).holdLine = (if takes 10 then (holdLineOfCode d[10]).getD r.holdLine else r.holdLine)
      ∧ (t.load n).learnEnable = (if named 11 then (flagOfCode d[11]).getD r.learnEnable else r.learnEnable)
      ∧ (t.load n).minOn = (if takes 12 then min (be16 d[12] d[13]).toNat 3600 else r.minOn)
      ∧ (t.load n).minOff = (if takes 14 then min (be16 d[14] d[15]).toNat 3600 else r.minOff)
      ∧ (t.load n).holdLimit = (if takes 16 then max 1 (min 3600 (be16 d[16] d[17]).toNat) else r.holdLimit)
      ∧ (t.load n).retryLimit = (if takes 18 then min d[18].toNat 7 else r.retryLimit)
      ∧ (t.load n).retryBase = (if takes 19 then max 1 d[19].toNat else r.retryBase)
      ∧ (t.load n).restartPolicy = (if takes 20 then (restartPolicyOfCode d[20]).getD r.restartPolicy else r.restartPolicy)
      ∧ (t.load n).retriesUsed = (if takes 18 then
          (if r.state = .locked then min d[18].toNat 7 + 1 else min r.retriesUsed (min d[18].toNat 7)) else r.retriesUsed)
      ∧ (t.load n).learnedDraw = r.learnedDraw
      ∧ (let after := t.load n
         ¬(named 2 = true ∧ min d[2].toNat 7 ≠ r.cls) → ¬(named 3 = true ∧ d[3].toNat < 2 ∧ d[3].toNat ≠ r.request.toNat) →
         ¬(r.state = .deferred ∧ r.waitHold = true ∧ after.holdLine ≠ r.holdLine ∧ s.held after.holdLine = false) →
         ¬(r.switchMode ≠ .follow ∧ after.switchMode = .follow ∧ s.switches[n].pressed ≠ r.request) →
         t.engine = s.engine ∧ t.port.flags = s.port.flags
         ∧ ({ r with
              declaredDraw := after.declaredDraw, settleTime := after.settleTime, switchMode := after.switchMode
              holdLine := after.holdLine, learnEnable := after.learnEnable, minOn := after.minOn, minOff := after.minOff
              holdLimit := after.holdLimit, retryLimit := after.retryLimit, retryBase := after.retryBase
              restartPolicy := after.restartPolicy, retriesUsed := after.retriesUsed }).sameButWindow n t)
      ∧ (s.recordsLaw → s.engine.exhausted = true ∨ s.engine.seq + 3 < 4294967295 →
        let released := s.setup.level = false
        let differs := fun (item v held : Nat) => released ∧ named item = true ∧ v ≠ held
        let unknown := fun (item codes : Nat) => named item = true ∧ codes ≤ d[item]!.toNat
        let noArrival := r.state = .locked ∨ s.engine.exhausted = true
        let asked := if named 3 = true ∧ d[3].toNat < 2 then d[3] = 0x01 else r.request = true
        (t.port.refusedMark = true ↔ s.port.refusedMark = true
          ∨ unknown 1 2 ∨ (released ∧ named 1 = true ∧ d[1] = 0x00)
          ∨ (named 2 = true ∧ min d[2].toNat 7 ≠ r.cls
            ∧ ((released ∧ (min d[2].toNat 7 = 0 ∨ r.cls = 0))
              ∨ (r.cls = 0 ∧ r.state = .starting
                ∧ ∃ m : Channel, m ≠ n ∧ (s.load m).state = .starting ∧ (s.load m).cls ≠ 0)))
          ∨ unknown 3 2 ∨ (named 3 = true ∧ d[3] = 0x01 ∧ r.request = false ∧ noArrival)
          ∨ differs 4 (max 1 (min 65534 (be16 d[4] d[5]).toNat)) r.declaredDraw
          ∨ differs 8 (max 1 (min 60 d[8].toNat)) r.settleTime
          ∨ unknown 9 4 ∨ (released ∧ named 9 = true ∧ d[9] ≠ switchModeCode r.switchMode)
          ∨ (takes 9 = true ∧ d[9] = 0x02 ∧ r.switchMode ≠ .follow ∧ s.switches[n].pressed = true ∧ ¬asked ∧ noArrival)
          ∨ unknown 10 5 ∨ (released ∧ named 10 = true ∧ d[10] ≠ holdLineCode r.holdLine)
          ∨ unknown 11 2
          ∨ differs 12 (min (be16 d[12] d[13]).toNat 3600) r.minOn ∨ differs 14 (min (be16 d[14] d[15]).toNat 3600) r.minOff
          ∨ differs 16 (max 1 (min 3600 (be16 d[16] d[17]).toNat)) r.holdLimit
          ∨ differs 18 (min d[18].toNat 7) r.retryLimit ∨ differs 19 (max 1 d[19].toNat) r.retryBase
          ∨ unknown 20 2 ∨ (released ∧ named 20 = true ∧ d[20] ≠ restartPolicyCode r.restartPolicy)))

/-- A LOAD_COMMIT that changes the class alone (R10, R21, R96, R102): refused by the class-0 protection and for a second
STARTING record of class 1 to 7; else taken, with the essential check in STANDBY, whose start is not made while the counter
is exhausted (R90), and the end of a BUDGET deferral at class 0. MODEL'S CHOICE (log 14): the commit sets the pointer only
where it does not already stand on the record. -/
def Obligations.ClassCommitIsRefusedOrTaken : Prop :=
  ∀ (s : State) (n : Channel) (d : Vector Byte 28), s.powered = true → s.startup.ready = true → s.listsInOrder →
    s.port.mask = some 0x00000004 → (s.load n).state ≠ .vacant →
    let r := s.load n
    let c := min d[2].toNat 7
    let refused := (s.setup.level = false ∧ (c = 0 ∨ r.cls = 0))
      ∨ (r.cls = 0 ∧ r.state = .starting ∧ ∃ m : Channel, m ≠ n ∧ (s.load m).state = .starting ∧ (s.load m).cls ≠ 0)
    ∃ t : State, exec (.loadCommit n d) s = .next t ∧ s.othersSame n t
      ∧ t = { s with
          loads := t.loads, engine := t.engine
          port := { s.port.afterRecord .load n.val (if n.val = 11 then 0 else n.val + 1) with
            mask := none, refusedMark := s.port.refusedMark || decide (c ≠ r.cls ∧ refused) } }
      ∧ (c = r.cls ∨ refused → r.sameButWindow n t ∧ t.engine = s.engine)
      ∧ (c ≠ r.cls → ¬refused →
        (r.state = .standby → c = 0 → s.forceOff.level = false → r.minOff ≤ r.dwell → s.engine.exhausted = false →
          t.load n = { r with cls := 0 }.startsNow s.engine.seq s t
          ∧ t.engine = { s.engine.stamped with
              spacing := 0, runList := s.engine.runList ++ [n]
              standbyList := s.engine.standbyList.erase n })
        ∧ (r.state = .standby → ¬(c = 0 ∧ s.forceOff.level = false ∧ r.minOff ≤ r.dwell ∧ s.engine.exhausted = false) →
            ({ r with cls := c }).sameButWindow n t ∧ t.engine.standbyList.Perm s.engine.standbyList
            ∧ t.engine = { s.engine with standbyList := t.engine.standbyList })
        ∧ (r.state = .deferred → c = 0 → r.reason = .deferred .budget → t.engine = s.engine
            ∧ ({ r with cls := 0, state := .running, reason := .none, waitHold := false, waitMinOn := false, holdTimer := 0
                        settleTimer := 0, cleanRun := 0 }).sameButWindow n t)
        ∧ (r.state ≠ .standby → ¬(r.state = .deferred ∧ c = 0 ∧ r.reason = .deferred .budget) →
            ({ r with cls := c }).sameButWindow n t ∧ t.engine = s.engine))

/-- A LOAD_COMMIT that writes the request alone (R80 to R87, R90): a request that differs from the one held arrives,
whatever the SETUP level; one that does not, changes nothing; ON is refused at a LOCKED record and while the counter is
exhausted. MODEL'S CHOICE (log 14): the commit sets the pointer only where it does not already stand on the record. -/
def Obligations.RequestCommitArrives : Prop :=
  ∀ (s : State) (n : Channel) (d : Vector Byte 28), s.powered = true → s.startup.ready = true → s.listsInOrder →
    s.port.mask = some 0x00000008 → (s.load n).state ≠ .vacant → d[3].toNat < 2 →
    let r := s.load n
    ∃ t : State, exec (.loadCommit n d) s = .next t ∧ s.othersSame n t
      ∧ t = { s with
          loads := t.loads, engine := t.engine
          port := { s.port.afterRecord .load n.val (if n.val = 11 then 0 else n.val + 1) with
            mask := none
            refusedMark := s.port.refusedMark
              || (d[3] == 0x01 && !r.request && (r.state == .locked || s.engine.exhausted)) } }
      ∧ (d[3].toNat = r.request.toNat → r.sameButWindow n t ∧ t.engine = s.engine)
      ∧ (r.request = false → d[3] = 0x01 → s.engine.exhausted = false → s.turnsOn n t)
      ∧ (r.request = false → d[3] = 0x01 → s.engine.exhausted = true → r.sameButWindow n t ∧ t.engine = s.engine)
      ∧ (r.request = true → d[3] = 0x00 → s.turnsOff n t)

/-- A record read and written back whole changes nothing (R13, R183, R184): LOAD records with SETUP asserted and the profile
records at any SETUP level, while the laws of their ranges hold. MODEL'S CHOICE (log 14): the commit sets the pointer only
where it does not already stand on the record. -/
def Obligations.RecordsReadAndWrittenBackChangeNothing : Prop :=
  ∀ s : State, s.powered = true → s.startup.ready = true → s.port.mask = none → s.listsInOrder → s.retriesLaw →
    s.recordsInRange → s.meter.lawful → s.budget.lawful → restLawful s.rest → s.allowanceLaw → s.reserveLaw →
    (∀ (n : Channel) (d : Vector Byte 28), s.setup.level = true → d.toList = s.recordBytes .load n.val →
      ∃ t : State, exec (.loadCommit n d) s = .next t
        ∧ t = { s with
            loads := t.loads, port := s.port.afterRecord .load n.val (if n.val = 11 then 0 else n.val + 1) }
        ∧ ∀ m : Channel, (s.load m).sameButWindow m t)
    ∧ ∀ d : Vector Byte 32,
      (d.toList = s.recordBytes .profile 0 →
        exec (.meterProfileCommit d) s = .next { s with port := s.port.afterRecord .profile 0 1 })
      ∧ (d.toList = s.recordBytes .profile 1 →
        exec (.budgetProfileCommit d) s = .next { s with port := s.port.afterRecord .profile 1 2 })
      ∧ (d.toList = s.recordBytes .profile 2 →
        exec (.restTableCommit d) s = .next { s with port := s.port.afterRecord .profile 2 0 })

/-! ## The port and the commands -/

/-- POINTER_SET, PARTIAL_WRITE, LISTS_WRITE, STATUS_COMMIT and SET_CHANGE_MASK (R167 to R169, R171, R172, R174, R176, R179),
and the ALERT line, low exactly while some flag is set with its enable set (R181). MODEL'S CHOICE: a commit sets the
pointer, and so disarms the mask or discards a snapshot, only where it does not already stand on the record (log 14);
LISTS_WRITE is a whole data phase (log 33). -/
def Obligations.PortWritesSetPointerMarksAndMask : Prop :=
  (∀ s : State, s.alertLow = true ↔ ∃ bit : Fin 8, s.port.flags[bit] = true ∧ s.port.enables[bit] = true)
  ∧ ∀ s : State, s.powered = true → s.startup.ready = true →
    (∀ (address : BitVec 7) (space index : Byte),
      (∀ (sp : Space) (count : Nat), (space.toNat, sp, count) ∈
            [(1, Space.load, 12), (2, Space.profile, 3), (3, Space.status, 1), (4, Space.command, 7), (5, Space.lists, 2)] →
        (address = s.port.address → index.toNat < count → exec (.pointerSet address space index) s = .next { s with
          port := { s.port with
            space := sp, index := index.toNat, offset := 0, snapshot := none
            mask := if space.toNat ≤ 2 then s.port.mask else none } })
        ∧ (count ≤ index.toNat → exec (.pointerSet address space index) s = .next s))
      ∧ (address ≠ s.port.address ∨ space.toNat = 0 ∨ 5 < space.toNat →
          exec (.pointerSet address space index) s = .next s))
    ∧ (∀ (sp : Space) (index : Nat) (data : List Byte), (Instr.partialWrite sp index data).wellFormed = true →
        exec (.partialWrite sp index data) s = .next { s with port := { s.port with
          space := sp, index := index, offset := 0, staging := [], snapshot := none, mask := none, partialMark := true } })
    ∧ (∀ (index : Fin 2) (data : List Byte), exec (.listsWrite index data) s = .next { s with port := { s.port with
        space := .lists, index := (index.val + data.length / 13) % 2, offset := 0, snapshot := none, mask := none } })
    ∧ (∀ d : Vector Byte 40, exec (.statusCommit d) s = .next { s with port := { s.port.afterRecord .status 0 0 with
        flags := s.port.flags &&& ~~~d[31], enables := d[32] } })
    ∧ ∀ argument : Vector Byte 4, exec (.setChangeMask argument) s = .next { s with
        port := { s.port.afterCommand 6 0xFF 0x01 with mask := some (argumentWord argument) } }

/-- READ_TRANSACTION and STATUS_SNAPSHOT (R23, R105, R168, R170, R173, R174, R177, R178, R183 to R186): the bytes sent are those
of the record, in its layout, as it stood when its offset 0 was read; the read disarms the mask, and clears PARTIAL and
REFUSED when it takes a snapshot of STATUS. A read that goes on past a record's end is the read to that end and then the read
of the rest. MODEL'S CHOICE: a command carries its number of bytes, and the bytes sent stand in port.sent (log 16);
STATUS_SNAPSHOT sets the pointer and disarms the mask itself (log 14); the bits of STATUS that R185 does not name read 0
(log 37). -/
def Obligations.ReadsSendTheSnapshot : Prop :=
  ∀ s : State, s.powered = true → s.startup.ready = true → s.pointerLaw → s.listLaw →
    (∀ (address : BitVec 7) (count : Nat), address ≠ s.port.address → exec (.readTransaction address count) s = .next s)
    ∧ exec (.readTransaction s.port.address 0) s = .next { s with port := { s.port with mask := none, sent := [] } }
    ∧ (∀ count : Nat, 0 < count → s.port.offset + count ≤ s.port.space.bytes →
      let record := if s.port.offset = 0 then s.layout s.port.space s.port.index else s.port.snapshot.getD []
      let through := s.port.offset + count = s.port.space.bytes
      let clears := s.port.offset = 0 ∧ s.port.space = .status
      exec (.readTransaction s.port.address count) s = .next { s with port := { s.port with
        mask := none
        sent := (record.drop s.port.offset).take count
        snapshot := if through then none else some record
        offset := if through then 0 else s.port.offset + count
        index := if through then (if s.port.index + 1 < s.port.space.records then s.port.index + 1 else 0) else s.port.index
        partialMark := if clears then false else s.port.partialMark
        refusedMark := if clears then false else s.port.refusedMark } })
    ∧ (∀ rest : Nat, ∃ u v : State,
        exec (.readTransaction s.port.address (s.port.space.bytes - s.port.offset)) s = .next u
        ∧ exec (.readTransaction s.port.address rest) u = .next v
        ∧ exec (.readTransaction s.port.address (s.port.space.bytes - s.port.offset + rest)) s =
          .next { v with port := { v.port with sent := u.port.sent ++ v.port.sent } })
    ∧ exec .statusSnapshot s = .next { s with port := { s.port with
        space := .status, index := 0, offset := 1, mask := none, snapshot := some s.statusLayout
        sent := s.statusLayout.take 1, partialMark := false, refusedMark := false } }

/-- CLEAR_FAULT and FORGET_DRAW (R154, R166, R175, R176), with the last-command record. MODEL'S CHOICE (log 14): an armed
mask survives where the pointer already stands on the record. -/
def Obligations.ChannelCommandsActOrReport : Prop :=
  ∀ (s : State) (argument : Vector Byte 4), s.powered = true → s.startup.ready = true →
    (11 < (argumentWord argument).toNat →
      exec (.clearFault argument) s = .next { s with port := s.port.afterCommand 0 0xFE 0x02 }
      ∧ exec (.forgetDraw argument) s = .next { s with port := s.port.afterCommand 1 0xFE 0x02 })
    ∧ ∀ n : Channel, (argumentWord argument).toNat = n.val →
      let r := s.load n
      (r.state ≠ .locked → r.state ≠ .tripped → exec (.clearFault argument) s = .next { s with
        port := s.port.afterCommand 0 (BitVec.ofNat 8 n.val) 0x03 })
      ∧ (r.state = .locked → exec (.clearFault argument) s = .next { s.withLoad n { r with
            state := .idle, reason := .none, shed := false, requestStamp := none, retryTimer := none, retriesUsed := 0 } with
          port := s.port.afterCommand 0 (BitVec.ofNat 8 n.val) 0x01 })
      ∧ (r.state = .tripped → s.listLaw →
          ∃ t : State, exec (.clearFault argument) s = .next t ∧ s.othersSame n t
            ∧ t = { s with
                loads := t.loads, engine := t.engine, port := s.port.afterCommand 0 (BitVec.ofNat 8 n.val) 0x01 }
            ∧ s.endsRetry n { r with retriesUsed := 0, retryTimer := none } t)
      ∧ (r.state = .vacant → exec (.forgetDraw argument) s = .next { s with
          port := s.port.afterCommand 1 (BitVec.ofNat 8 n.val) 0x03 })
      ∧ (r.state ≠ .vacant → exec (.forgetDraw argument) s = .next { s.withLoad n { r with learnedDraw := none } with
          port := s.port.afterCommand 1 (BitVec.ofNat 8 n.val) 0x01 })

/-- SAVE_PROFILE (R188, R190, R194): the save image holds every field of the profiles and the thirteen stored fields of
every channel, as held, and is good: a part that starts from it takes no factory value. While a save is in flight the
command answers BUSY. MODEL'S CHOICE (log 14): an armed mask survives where the pointer already stands on the record. -/
def Obligations.SaveProfileFormsAGoodImage : Prop :=
  ∀ (s : State) (argument : Vector Byte 4), s.powered = true → s.startup.ready = true →
    (s.store.saving ≠ none → exec (.saveProfile argument) s = .next { s with port := s.port.afterCommand 4 0xFF 0x04 })
    ∧ (s.store.saving = none → ∃ image : StoreWords,
        exec (.saveProfile argument) s = .next { s with
          store := { s.store with saving := some image }, port := s.port.afterCommand 4 0xFF 0x01 }
        ∧ image.meter = s.meter.stored ∧ image.budget = s.budget.stored
        ∧ (∀ i : Fin 8, image.rest[i] = ⟨BitVec.ofNat 16 s.rest[i].voltage, BitVec.ofNat 16 s.rest[i].fraction⟩)
        ∧ (∀ n : Channel, image.channels[n] = (s.load n).stored)
        ∧ (image.byteSum + image.checksum.toNat) % 65536 = 0
        ∧ (s.meter.lawful → s.budget.lawful → restLawful s.rest → s.recordsInRange → image.good))

/-- RESTART and SAVE_COMPLETION (R190 to R193, R196): a restart begins at once while the store is idle, and at the save's
completion otherwise; a read-back that differs from the save image sets STORE_FAULT, or is carried to stage 2. MODEL'S
CHOICE: from the beginning of a restart the switches and FORCE_OFF stand released until the first line tick (log 10); the
spacing counter, the cut hold-off timer, the sequence counter and dwell stand (log 26); SAVE_COMPLETION with no save changes
nothing (log 1); an armed mask survives where the pointer already stands on the record (log 14). -/
def Obligations.RestartBeginsAtOnceOrAtCompletion : Prop :=
  ∀ s : State, s.powered = true →
    (∀ argument : Vector Byte 4, s.startup.ready = true →
      (s.store.saving = none → ∃ t : State, exec (.restart argument) s = .next t ∧ s.restartsAs t)
      ∧ (s.store.saving ≠ none → exec (.restart argument) s = .next { s with
          store := { s.store with restartPending := true }, port := s.port.afterCommand 5 0xFF 0x05 }))
    ∧ ∀ found : StoreWords,
      (s.store.saving = none → exec (.saveCompletion found) s = .next s)
      ∧ ∀ image : StoreWords, s.store.saving = some image →
        let ended := { s with
          store := { s.store with image := found, saving := none }
          port := if found = image then s.port else s.port.withFlag 6 }
        (s.store.restartPending = false → exec (.saveCompletion found) s = .next ended)
        ∧ (s.store.restartPending = true → ∃ t : State, exec (.saveCompletion found) s = .next t
          ∧ ({ ended with store := { ended.store with
                failedCarry := decide (found ≠ image) || s.store.failedCarry } }).restartsAs t)

/-- LOSS_OF_POWER (R191, R187): all held state ends, a save in flight ends, and the store keeps its image, the save image,
or one that is not good. MODEL'S CHOICE: the held state then stands at its power-on values, the address alone as it was, and
the part takes POWER_ON alone (log 11); an operand that left a good image before the checksum, which R191 excludes, leaves
an erased store (log 12). -/
def Obligations.LossOfPowerKeepsTheStoreAlone : Prop :=
  (∀ (s : State) (cut : SaveCut), s.powered = true → ∃ t : State, exec (.lossOfPower cut) s = .next t
    ∧ (∀ n : Channel, t.outputs[n] = false) ∧ t.alertLow = false
    ∧ (∃ u : State, exec (.powerOn false false) s = .next u ∧ t = { u with
        powered := false, port := { u.port with address := s.port.address }
        store := { image := t.store.image, saving := none, restartPending := false, failedCarry := false } })
    ∧ (s.store.saving = none → t.store.image = s.store.image)
    ∧ ∀ image : StoreWords, s.store.saving = some image →
      (cut = .duringReadBack → t.store.image = image)
      ∧ (cut ≠ .duringReadBack → ¬t.store.image.good))
  ∧ ∀ (c : Instr) (s : State), s.powered = false → (∀ a b : Bool, c ≠ .powerOn a b) → exec c s = .next s

/-! ## Start-up and learning -/

/-- STARTUP_STAGE_2 (R188, R189, R194): the stored image is used if it is good, which is that its checksum test holds, every
field lies in its range, every code names a value, the table is ordered and the two relations hold, and the factory image,
whose channels are not enrolled and at their defaults, if it is not; the flags are cleared but for STORE_FAULT, and the
enables set. MODEL'S CHOICE: the stage is due from the 20th line tick of start-up until it is taken (log 30; R193 takes it
at the 20th), and one that is not due changes nothing (log 1). -/
def Obligations.StageTwoTakesProfilesFromTheStore : Prop :=
  ∀ s : State, s.powered = true →
    (s.startup.ready = true ∨ s.startup.ticks < 20 ∨ s.startup.kept ≠ none → exec .startupStage2 s = .next s)
    ∧ (s.startup.ready = false → 20 ≤ s.startup.ticks → s.startup.kept = none → ∃ t : State,
      exec .startupStage2 s = .next t
      ∧ t = { s with
          meter := t.meter, budget := t.budget, rest := t.rest, reserve := t.reserve
          engine := { s.engine with allowance := min s.engine.allowance (t.budget.aMax * 10) }
          port := { s.port with
            flags := if ¬s.store.image.good ∨ s.store.failedCarry = true then 0x40 else 0x00, enables := 0xDF }
          store := { s.store with failedCarry := false }
          startup := { s.startup with kept := t.startup.kept } }
      ∧ (∀ q : Nat, s.reserve.q = some q → t.reserve =
          if t.meter.capacity * 3600000 < q then { s.reserve with q := some (t.meter.capacity * 3600000), remainder := 0 }
          else s.reserve)
      ∧ (s.reserve.q = none → t.reserve = s.reserve)
      ∧ (s.store.image.good →
          t.meter = s.store.image.meter.held ∧ t.budget = s.store.image.budget.held
          ∧ (∀ i : Fin 8, t.rest[i] = ⟨s.store.image.rest[i].voltage.toNat, s.store.image.rest[i].fraction.toNat⟩)
          ∧ t.startup.kept = some s.store.image.channels)
      ∧ (¬s.store.image.good →
          t.meter = ⟨100, 360, 950, 20, 60, 3, 30, 200, 50, 14200, 2000, 5⟩
          ∧ t.budget = ⟨12400, 11600, 500, 150, 10000, 100, 5, 5, 30⟩ ∧ t.rest = #v[⟨11800, 0⟩, ⟨12000, 100⟩,
              ⟨12100, 200⟩, ⟨12200, 350⟩, ⟨12300, 500⟩, ⟨12400, 650⟩, ⟨12550, 850⟩, ⟨12700, 1000⟩]
          ∧ ∃ kept : Vector ChannelWords 12, t.startup.kept = some kept
            ∧ ∀ n : Channel, kept[n] = ⟨0x00, 7, 100, 0xFFFF, 2, 0x00, 0x00, 0, 0, 600, 3, 5, 0x00⟩))

/-- STARTUP_STAGE_3 (R25, R98, R104, R159, R195): the Load Table is rebuilt, requested records enter STANDBY stamped in
channel order, and the essentials that are eligible at dwell 0 are started, the window of the last one staying open (R164).
MODEL'S CHOICE: the stage is due from the 25th line tick of start-up until it is taken (log 30), and one that is not due
changes nothing (log 1). -/
def Obligations.StageThreeRebuildsTableAndLists : Prop :=
  ∀ s : State, s.powered = true →
    (s.startup.ready = true ∨ s.startup.ticks < 25 ∨ s.startup.kept = none → exec .startupStage3 s = .next s)
    ∧ ∀ kept : Vector ChannelWords 12, s.startup.ready = false → 25 ≤ s.startup.ticks → s.startup.kept = some kept →
      (∀ n : Channel, kept[n].good) →
      let asked := fun n : Channel => kept[n].enrolled == 0x01
        && (if kept[n].switchMode = 0x02 then s.switches[n].pressed else kept[n].restartPolicy == 0x01)
      let starts := fun n : Channel => asked n && kept[n].cls == 0 && kept[n].minOff == 0 && !s.forceOff.level
      let asks := channels.filter asked
      let started := channels.filter starts
      ∃ t : State, exec .startupStage3 s = .next t
      ∧ t = { s with
          loads := t.loads, startup := ⟨true, s.startup.ticks, none⟩
          engine := { s.engine with
            spacing := 255, holdOff := 0, seq := asks.length + started.length, exhausted := false, runList := started
            standbyList := t.engine.standbyList } }
      ∧ t.listsInOrder
      ∧ ∀ n : Channel,
        let r := kept[n].record (asked n) (if asked n then some (asks.idxOf n) else none)
        (kept[n].enrolled = 0x00 → t.load n = {})
        ∧ (kept[n].enrolled = 0x01 → asked n = false → t.load n = r)
        ∧ (starts n = true →
          let q := r.startsNow (asks.length + started.idxOf n) s t
          t.load n = if started.getLast? = some n then q else { q with window := .closed })
        ∧ (asked n = true → starts n = false → t.load n = { r with
          state := .standby
          reason := .standby (if s.forceOff.level then .forced else if kept[n].minOff = 0 then .queued else .minOff) })

/-- The closing reading and the fold (R160 to R162): at a sample tick a window in its closing phase closes, and a sample of
two valid readings above 0 is folded, rounded up; every other record keeps its learned draw and its window. MODEL'S CHOICE
(log 5): the closing reading is part of SAMPLE_TICK. -/
def Obligations.ClosingReadingFoldsValidSample : Prop :=
  ∀ (s : State) (code : BitVec 12), s.powered = true → .sample ∈ s.due → ∃ t : State, exec (.sampleTick code) s = .next t
    ∧ ∀ n : Channel,
      (∀ o : Opening, (s.load n).window = .closing o →
        let sample := t.sense.pub.current - o.before
        let folds := o.valid = true ∧ t.sense.pub.valid = true ∧ 0 < sample
        (folds → (s.load n).learnedDraw = none → t.load n = { s.load n with
            window := .closed, learnedDraw := some (max 1 (min 65534 ⌈(sample : ℚ) / 10⌉₊)) })
        ∧ (folds → ∀ l : Nat, (s.load n).learnedDraw = some l → t.load n = { s.load n with
            window := .closed, learnedDraw := some (max 1 (min 65534 ⌈((l : ℚ) * 10 + sample) / 20⌉₊)) })
        ∧ (¬folds → t.load n = { s.load n with window := .closed }))
      ∧ ((∀ o : Opening, (s.load n).window ≠ .closing o) → t.load n = s.load n)

/-! ## The laws that every step keeps -/

/-- The lists hold exactly their records, in the order of their stamps, which are issued and distinct; and each record's
request, stamps, reason, marks, retry timer, window and class accord with its state (R11, R19, R20, R74, R90 to R95, R115,
R131, R143, R150, R152, R158). -/
def Obligations.ListsStampsAndRecordsStayInOrder : Prop := ∀ s t : State, s.listsInOrder → step s = .next t → t.listsInOrder

/-- Retries used stays within the limit plus 1, which it equals exactly in LOCKED (the law of R155), and the fields of every
record stay in their ranges (R4, R11). -/
def Obligations.RetriesAndFieldsStayInRange : Prop :=
  ∀ s t : State, s.retriesLaw → s.recordsInRange → step s = .next t → t.retriesLaw ∧ t.recordsInRange

/-- In LOADING every output is off; while FORCE_OFF is asserted no load is on (the law of R147); and at most one record of
class 1 to 7 is STARTING (R120). And what the outputs do to an open learn window (R164): the lines that it holds are at
every step those that stand on the other channels (MODEL'S CHOICE, log 23: they are held); any event that changes the line
of another channel closes it; and an event that changes none leaves it as it is where its own record goes on STARTING or
RUNNING from the same start, but for a pulse (O8), a sample tick (O55), its settle end (O32) and a commit of its own record
(O43 to O45, O60), whose windows are stated there. The laws of the records (R11, R158), which
ListsStampsAndRecordsStayInOrder keeps, rule out a window at a record that cannot have one. -/
def Obligations.OutputsStayOffWhereTheyMust : Prop :=
  (∀ s t : State, s.loadingLaw → s.forceOffLaw → s.oneStarting → step s = .next t →
    t.loadingLaw ∧ t.forceOffLaw ∧ t.oneStarting)
  ∧ (∀ s t : State, s.windowsLaw → s.recordsLaw → step s = .next t → t.windowsLaw)
  ∧ (∀ (c : Instr) (s t : State) (n : Channel), s.windowsLaw → s.recordsLaw → s.loadingLaw → exec c s = .next t →
      (s.load n).window ≠ .closed → (∃ m : Channel, m ≠ n ∧ s.outputs[m] ≠ t.outputs[m]) → (t.load n).window = .closed)
  ∧ ∀ (c : Instr) (s t : State) (n : Channel), s.windowsLaw → s.listsInOrder → s.loadingLaw → exec c s = .next t →
      (∀ high : Bool, c ≠ .pulse high) → (∀ code : BitVec 12, c ≠ .sampleTick code) → c ≠ .settleEnd n →
      (∀ d : Vector Byte 28, c ≠ .loadCommit n d) →
      (s.load n).state = .starting ∨ (s.load n).state = .running → (t.load n).state = (s.load n).state →
      (t.load n).startStamp = (s.load n).startStamp → (∀ m : Channel, m ≠ n → t.outputs[m] = s.outputs[m]) →
      (t.load n).window = (s.load n).window

/-- The pointer stays inside a record, the counters of the lines, the tests and the engine stay in their ranges, and the
work that is due is that of the ticks at the latest capture tick, each piece once (R2, log 7). The law of the lists (R95),
which ListsStampsAndRecordsStayInOrder keeps, bounds the LISTS records by their 12 entries. -/
def Obligations.PointerAndCountersStayInRange : Prop :=
  ∀ s t : State, s.pointerLaw → s.listLaw → s.countersInRange → s.tickLaw → step s = .next t →
    t.pointerLaw ∧ t.countersInRange ∧ t.tickLaw

/-! ## The events of one load commit -/

/-- What a LOAD_COMMIT at an enrolled record hands on, and in which order. A new hold line moves a hold wait, and one that
is released, or none, ends it as a release does (R13). An entry into FOLLOW sets the request to the stable level (R78),
which a commit of the mode already held does not. The class comes before the request and the request before the entry into
FOLLOW (R12, R78): the commit acts as commits of its fields, its class, its request and its switch mode one after the other,
and with no mask armed it writes every item (R6). MODEL'S CHOICE: the hold wait ends before the class changes (log 20); an
output that the one commit turned off and on again has not changed, so dwell, blanking and the diagnostic count stay, dwell
by inference from R144 (log 34), while a record that a class change starts and a request OFF then cuts ends with dwell 0
(log 35); the commit sets the pointer only where it does not already stand on the record (log 14). -/
def Obligations.LoadCommitEventsActInOrder : Prop :=
  ∀ (s : State) (n : Channel) (d : Vector Byte 28), s.powered = true → s.startup.ready = true → s.listsInOrder →
    (s.load n).state ≠ .vacant →
    let r := s.load n
    (∀ line : Option HoldLine, s.setup.level = true → s.port.mask = some 0x00000400 → d[10] = holdLineCode line →
      let u := s.fieldsTaken n { r with holdLine := line }
      let ends := r.state = .deferred ∧ r.waitHold = true ∧ line ≠ r.holdLine ∧ s.held line = false
      ∃ t : State, exec (.loadCommit n d) s = .next t ∧ s.othersSame n t
        ∧ (¬ends → t = { u with loads := t.loads } ∧ (u.load n).sameButWindow n t)
        ∧ (ends → r.waitMinOn = true → t = { u with loads := t.loads }
          ∧ ({ u.load n with waitHold := false, holdTimer := 0 }).sameButWindow n t)
        ∧ (ends → r.waitMinOn = false → u.cutsDeferred n s.port.flags t))
    ∧ (s.setup.level = true → s.port.mask = some 0x00000200 → d[9] = 0x02 →
      let u := s.fieldsTaken n { r with switchMode := .follow }
      let enters := r.switchMode ≠ .follow
      let pressed := s.switches[n].pressed
      ∃ t : State, exec (.loadCommit n d) s = .next t ∧ s.othersSame n t
        ∧ t = { u with loads := t.loads, engine := t.engine, port := { u.port with refusedMark := t.port.refusedMark } }
        ∧ (¬enters ∨ pressed = r.request → t.engine = s.engine ∧ t.port = u.port ∧ (u.load n).sameButWindow n t)
        ∧ (enters → pressed = true → r.request = false → s.engine.exhausted = false →
            u.turnsOn n t ∧ t.port.refusedMark = (s.port.refusedMark || r.state == .locked))
        ∧ (enters → pressed = true → r.request = false → s.engine.exhausted = true →
            t.engine = s.engine ∧ t.port.refusedMark = true ∧ (u.load n).sameButWindow n t)
        ∧ (enters → pressed = false → r.request = true → u.turnsOff n t ∧ t.port = u.port))
    ∧ ∀ items : Wide, s.port.mask = some items ∨ (s.port.mask = none ∧ items = 0xFFFFFFFF) →
      ¬(s.setup.level = true ∧ items.getLsbD 1 = true ∧ d[1] = 0x00) →
      ∃ a b c e t : State, exec (.loadCommit n d) (s.armed (items &&& 0xFFFFFDF3)) = .next a
        ∧ exec (.loadCommit n d) (a.armed (items &&& 0x00000004)) = .next b
        ∧ exec (.loadCommit n d) (b.armed (items &&& 0x00000008)) = .next c
        ∧ exec (.loadCommit n d) (c.armed (items &&& 0x00000200)) = .next e
        ∧ exec (.loadCommit n d) s = .next t ∧ s.othersSame n t
        ∧ t.engine = e.engine ∧ t.port.flags = e.port.flags ∧ t.port.refusedMark = e.port.refusedMark
        ∧ (if r.on = true ∧ (e.load n).on = true then
            ({ e.load n with dwell := r.dwell, blanking := r.blanking, diagRun := r.diagRun }) else e.load n)
          = t.load n
end

