-- ==== Sys2Proof/Laws/State.lean ====
section
/-! SUPPORT. What each update of State leaves as it was, field by field, and what it does to a record. -/

namespace Sys2Proof.Machine

variable (s : State)

/-! ## Reading a record back -/

@[simp] theorem State.load_modify_self (n : Channel) (f : Load → Load) : (s.modify n f).load n = f (s.load n) := by
  simp [State.modify, State.load]

@[simp] theorem State.load_modify_of_ne {m n : Channel} (f : Load → Load) (h : m ≠ n) :
    (s.modify n f).load m = s.load m := by
  have : n.val ≠ m.val := fun e => h (Fin.ext e.symm)
  simp [State.modify, State.load, this]

/-- A change of one record, read at any record. -/
theorem State.load_modify (m n : Channel) (f : Load → Load) :
    (s.modify n f).load m = if m = n then f (s.load n) else s.load m := by
  by_cases h : m = n
  · subst h; simp
  · simp [h]

@[simp] theorem State.load_mapLoads (n : Channel) (f : Channel → Load → Load) :
    (s.mapLoads f).load n = f n (s.load n) := by
  simp [State.mapLoads, State.load]

/-- Two states with the same records at every channel have the same loads. -/
theorem State.loads_ext {t : State} (h : ∀ n : Channel, s.load n = t.load n) : s.loads = t.loads :=
  Vector.ext fun i hi => h ⟨i, hi⟩

/-! ## State.modify -/

@[simp] theorem State.modify_powered (n : Channel) (f : Load → Load) : (s.modify n f).powered = s.powered := rfl
@[simp] theorem State.modify_timebase (n : Channel) (f : Load → Load) : (s.modify n f).timebase = s.timebase := rfl
@[simp] theorem State.modify_due (n : Channel) (f : Load → Load) : (s.modify n f).due = s.due := rfl
@[simp] theorem State.modify_sense (n : Channel) (f : Load → Load) : (s.modify n f).sense = s.sense := rfl
@[simp] theorem State.modify_reserve (n : Channel) (f : Load → Load) : (s.modify n f).reserve = s.reserve := rfl
@[simp] theorem State.modify_meter (n : Channel) (f : Load → Load) : (s.modify n f).meter = s.meter := rfl
@[simp] theorem State.modify_budget (n : Channel) (f : Load → Load) : (s.modify n f).budget = s.budget := rfl
@[simp] theorem State.modify_rest (n : Channel) (f : Load → Load) : (s.modify n f).rest = s.rest := rfl
@[simp] theorem State.modify_engine (n : Channel) (f : Load → Load) : (s.modify n f).engine = s.engine := rfl
@[simp] theorem State.modify_switches (n : Channel) (f : Load → Load) : (s.modify n f).switches = s.switches := rfl
@[simp] theorem State.modify_holds (n : Channel) (f : Load → Load) : (s.modify n f).holds = s.holds := rfl
@[simp] theorem State.modify_forceOff (n : Channel) (f : Load → Load) : (s.modify n f).forceOff = s.forceOff := rfl
@[simp] theorem State.modify_setup (n : Channel) (f : Load → Load) : (s.modify n f).setup = s.setup := rfl
@[simp] theorem State.modify_port (n : Channel) (f : Load → Load) : (s.modify n f).port = s.port := rfl
@[simp] theorem State.modify_store (n : Channel) (f : Load → Load) : (s.modify n f).store = s.store := rfl
@[simp] theorem State.modify_startup (n : Channel) (f : Load → Load) : (s.modify n f).startup = s.startup := rfl
@[simp] theorem State.modify_pending (n : Channel) (f : Load → Load) : (s.modify n f).pending = s.pending := rfl

/-! ## State.tickCounted and State.workTaken -/

@[simp] theorem State.tickCounted_timebase : s.tickCounted.timebase = s.timebase % 10000 + 1 := rfl
@[simp] theorem State.tickCounted_due : s.tickCounted.due = workAt (s.timebase % 10000 + 1) := rfl
@[simp] theorem State.tickCounted_powered : s.tickCounted.powered = s.powered := rfl
@[simp] theorem State.tickCounted_sense : s.tickCounted.sense = s.sense := rfl
@[simp] theorem State.tickCounted_reserve : s.tickCounted.reserve = s.reserve := rfl
@[simp] theorem State.tickCounted_meter : s.tickCounted.meter = s.meter := rfl
@[simp] theorem State.tickCounted_budget : s.tickCounted.budget = s.budget := rfl
@[simp] theorem State.tickCounted_rest : s.tickCounted.rest = s.rest := rfl
@[simp] theorem State.tickCounted_engine : s.tickCounted.engine = s.engine := rfl
@[simp] theorem State.tickCounted_switches : s.tickCounted.switches = s.switches := rfl
@[simp] theorem State.tickCounted_holds : s.tickCounted.holds = s.holds := rfl
@[simp] theorem State.tickCounted_forceOff : s.tickCounted.forceOff = s.forceOff := rfl
@[simp] theorem State.tickCounted_setup : s.tickCounted.setup = s.setup := rfl
@[simp] theorem State.tickCounted_loads : s.tickCounted.loads = s.loads := rfl
@[simp] theorem State.tickCounted_port : s.tickCounted.port = s.port := rfl
@[simp] theorem State.tickCounted_store : s.tickCounted.store = s.store := rfl
@[simp] theorem State.tickCounted_startup : s.tickCounted.startup = s.startup := rfl
@[simp] theorem State.tickCounted_pending : s.tickCounted.pending = s.pending := rfl

@[simp] theorem State.workTaken_due (w : TickWork) : (s.workTaken w).due = s.due.erase w := rfl
@[simp] theorem State.workTaken_timebase (w : TickWork) : (s.workTaken w).timebase = s.timebase := rfl
@[simp] theorem State.workTaken_powered (w : TickWork) : (s.workTaken w).powered = s.powered := rfl
@[simp] theorem State.workTaken_sense (w : TickWork) : (s.workTaken w).sense = s.sense := rfl
@[simp] theorem State.workTaken_reserve (w : TickWork) : (s.workTaken w).reserve = s.reserve := rfl
@[simp] theorem State.workTaken_meter (w : TickWork) : (s.workTaken w).meter = s.meter := rfl
@[simp] theorem State.workTaken_budget (w : TickWork) : (s.workTaken w).budget = s.budget := rfl
@[simp] theorem State.workTaken_rest (w : TickWork) : (s.workTaken w).rest = s.rest := rfl
@[simp] theorem State.workTaken_engine (w : TickWork) : (s.workTaken w).engine = s.engine := rfl
@[simp] theorem State.workTaken_switches (w : TickWork) : (s.workTaken w).switches = s.switches := rfl
@[simp] theorem State.workTaken_holds (w : TickWork) : (s.workTaken w).holds = s.holds := rfl
@[simp] theorem State.workTaken_forceOff (w : TickWork) : (s.workTaken w).forceOff = s.forceOff := rfl
@[simp] theorem State.workTaken_setup (w : TickWork) : (s.workTaken w).setup = s.setup := rfl
@[simp] theorem State.workTaken_loads (w : TickWork) : (s.workTaken w).loads = s.loads := rfl
@[simp] theorem State.workTaken_port (w : TickWork) : (s.workTaken w).port = s.port := rfl
@[simp] theorem State.workTaken_store (w : TickWork) : (s.workTaken w).store = s.store := rfl
@[simp] theorem State.workTaken_startup (w : TickWork) : (s.workTaken w).startup = s.startup := rfl
@[simp] theorem State.workTaken_pending (w : TickWork) : (s.workTaken w).pending = s.pending := rfl
@[simp] theorem State.load_workTaken (w : TickWork) (n : Channel) : (s.workTaken w).load n = s.load n := rfl

/-! ## State.mapLoads -/

@[simp] theorem State.mapLoads_powered (f : Channel → Load → Load) : (s.mapLoads f).powered = s.powered := rfl
@[simp] theorem State.mapLoads_timebase (f : Channel → Load → Load) : (s.mapLoads f).timebase = s.timebase := rfl
@[simp] theorem State.mapLoads_due (f : Channel → Load → Load) : (s.mapLoads f).due = s.due := rfl
@[simp] theorem State.mapLoads_sense (f : Channel → Load → Load) : (s.mapLoads f).sense = s.sense := rfl
@[simp] theorem State.mapLoads_reserve (f : Channel → Load → Load) : (s.mapLoads f).reserve = s.reserve := rfl
@[simp] theorem State.mapLoads_meter (f : Channel → Load → Load) : (s.mapLoads f).meter = s.meter := rfl
@[simp] theorem State.mapLoads_budget (f : Channel → Load → Load) : (s.mapLoads f).budget = s.budget := rfl
@[simp] theorem State.mapLoads_rest (f : Channel → Load → Load) : (s.mapLoads f).rest = s.rest := rfl
@[simp] theorem State.mapLoads_engine (f : Channel → Load → Load) : (s.mapLoads f).engine = s.engine := rfl
@[simp] theorem State.mapLoads_switches (f : Channel → Load → Load) : (s.mapLoads f).switches = s.switches := rfl
@[simp] theorem State.mapLoads_holds (f : Channel → Load → Load) : (s.mapLoads f).holds = s.holds := rfl
@[simp] theorem State.mapLoads_forceOff (f : Channel → Load → Load) : (s.mapLoads f).forceOff = s.forceOff := rfl
@[simp] theorem State.mapLoads_setup (f : Channel → Load → Load) : (s.mapLoads f).setup = s.setup := rfl
@[simp] theorem State.mapLoads_port (f : Channel → Load → Load) : (s.mapLoads f).port = s.port := rfl
@[simp] theorem State.mapLoads_store (f : Channel → Load → Load) : (s.mapLoads f).store = s.store := rfl
@[simp] theorem State.mapLoads_startup (f : Channel → Load → Load) : (s.mapLoads f).startup = s.startup := rfl
@[simp] theorem State.mapLoads_pending (f : Channel → Load → Load) : (s.mapLoads f).pending = s.pending := rfl

/-! ## State.raise -/

@[simp] theorem State.raise_powered (g : Flag) : (s.raise g).powered = s.powered := rfl
@[simp] theorem State.raise_timebase (g : Flag) : (s.raise g).timebase = s.timebase := rfl
@[simp] theorem State.raise_due (g : Flag) : (s.raise g).due = s.due := rfl
@[simp] theorem State.raise_sense (g : Flag) : (s.raise g).sense = s.sense := rfl
@[simp] theorem State.raise_reserve (g : Flag) : (s.raise g).reserve = s.reserve := rfl
@[simp] theorem State.raise_meter (g : Flag) : (s.raise g).meter = s.meter := rfl
@[simp] theorem State.raise_budget (g : Flag) : (s.raise g).budget = s.budget := rfl
@[simp] theorem State.raise_rest (g : Flag) : (s.raise g).rest = s.rest := rfl
@[simp] theorem State.raise_engine (g : Flag) : (s.raise g).engine = s.engine := rfl
@[simp] theorem State.raise_switches (g : Flag) : (s.raise g).switches = s.switches := rfl
@[simp] theorem State.raise_holds (g : Flag) : (s.raise g).holds = s.holds := rfl
@[simp] theorem State.raise_forceOff (g : Flag) : (s.raise g).forceOff = s.forceOff := rfl
@[simp] theorem State.raise_setup (g : Flag) : (s.raise g).setup = s.setup := rfl
@[simp] theorem State.raise_loads (g : Flag) : (s.raise g).loads = s.loads := rfl
@[simp] theorem State.raise_store (g : Flag) : (s.raise g).store = s.store := rfl
@[simp] theorem State.raise_startup (g : Flag) : (s.raise g).startup = s.startup := rfl
@[simp] theorem State.raise_pending (g : Flag) : (s.raise g).pending = s.pending := rfl

/-! ## State.refuse -/

@[simp] theorem State.refuse_powered : (s.refuse).powered = s.powered := rfl
@[simp] theorem State.refuse_timebase : (s.refuse).timebase = s.timebase := rfl
@[simp] theorem State.refuse_due : (s.refuse).due = s.due := rfl
@[simp] theorem State.refuse_sense : (s.refuse).sense = s.sense := rfl
@[simp] theorem State.refuse_reserve : (s.refuse).reserve = s.reserve := rfl
@[simp] theorem State.refuse_meter : (s.refuse).meter = s.meter := rfl
@[simp] theorem State.refuse_budget : (s.refuse).budget = s.budget := rfl
@[simp] theorem State.refuse_rest : (s.refuse).rest = s.rest := rfl
@[simp] theorem State.refuse_engine : (s.refuse).engine = s.engine := rfl
@[simp] theorem State.refuse_switches : (s.refuse).switches = s.switches := rfl
@[simp] theorem State.refuse_holds : (s.refuse).holds = s.holds := rfl
@[simp] theorem State.refuse_forceOff : (s.refuse).forceOff = s.forceOff := rfl
@[simp] theorem State.refuse_setup : (s.refuse).setup = s.setup := rfl
@[simp] theorem State.refuse_loads : (s.refuse).loads = s.loads := rfl
@[simp] theorem State.refuse_store : (s.refuse).store = s.store := rfl
@[simp] theorem State.refuse_startup : (s.refuse).startup = s.startup := rfl
@[simp] theorem State.refuse_pending : (s.refuse).pending = s.pending := rfl

/-! ## State.joinStandby -/

@[simp] theorem State.joinStandby_powered (n : Channel) : (s.joinStandby n).powered = s.powered := rfl
@[simp] theorem State.joinStandby_timebase (n : Channel) : (s.joinStandby n).timebase = s.timebase := rfl
@[simp] theorem State.joinStandby_due (n : Channel) : (s.joinStandby n).due = s.due := rfl
@[simp] theorem State.joinStandby_sense (n : Channel) : (s.joinStandby n).sense = s.sense := rfl
@[simp] theorem State.joinStandby_reserve (n : Channel) : (s.joinStandby n).reserve = s.reserve := rfl
@[simp] theorem State.joinStandby_meter (n : Channel) : (s.joinStandby n).meter = s.meter := rfl
@[simp] theorem State.joinStandby_budget (n : Channel) : (s.joinStandby n).budget = s.budget := rfl
@[simp] theorem State.joinStandby_rest (n : Channel) : (s.joinStandby n).rest = s.rest := rfl
@[simp] theorem State.joinStandby_switches (n : Channel) : (s.joinStandby n).switches = s.switches := rfl
@[simp] theorem State.joinStandby_holds (n : Channel) : (s.joinStandby n).holds = s.holds := rfl
@[simp] theorem State.joinStandby_forceOff (n : Channel) : (s.joinStandby n).forceOff = s.forceOff := rfl
@[simp] theorem State.joinStandby_setup (n : Channel) : (s.joinStandby n).setup = s.setup := rfl
@[simp] theorem State.joinStandby_loads (n : Channel) : (s.joinStandby n).loads = s.loads := rfl
@[simp] theorem State.joinStandby_port (n : Channel) : (s.joinStandby n).port = s.port := rfl
@[simp] theorem State.joinStandby_store (n : Channel) : (s.joinStandby n).store = s.store := rfl
@[simp] theorem State.joinStandby_startup (n : Channel) : (s.joinStandby n).startup = s.startup := rfl
@[simp] theorem State.joinStandby_pending (n : Channel) : (s.joinStandby n).pending = s.pending := rfl

/-! ## State.leaveStandby -/

@[simp] theorem State.leaveStandby_powered (n : Channel) : (s.leaveStandby n).powered = s.powered := rfl
@[simp] theorem State.leaveStandby_timebase (n : Channel) : (s.leaveStandby n).timebase = s.timebase := rfl
@[simp] theorem State.leaveStandby_due (n : Channel) : (s.leaveStandby n).due = s.due := rfl
@[simp] theorem State.leaveStandby_sense (n : Channel) : (s.leaveStandby n).sense = s.sense := rfl
@[simp] theorem State.leaveStandby_reserve (n : Channel) : (s.leaveStandby n).reserve = s.reserve := rfl
@[simp] theorem State.leaveStandby_meter (n : Channel) : (s.leaveStandby n).meter = s.meter := rfl
@[simp] theorem State.leaveStandby_budget (n : Channel) : (s.leaveStandby n).budget = s.budget := rfl
@[simp] theorem State.leaveStandby_rest (n : Channel) : (s.leaveStandby n).rest = s.rest := rfl
@[simp] theorem State.leaveStandby_switches (n : Channel) : (s.leaveStandby n).switches = s.switches := rfl
@[simp] theorem State.leaveStandby_holds (n : Channel) : (s.leaveStandby n).holds = s.holds := rfl
@[simp] theorem State.leaveStandby_forceOff (n : Channel) : (s.leaveStandby n).forceOff = s.forceOff := rfl
@[simp] theorem State.leaveStandby_setup (n : Channel) : (s.leaveStandby n).setup = s.setup := rfl
@[simp] theorem State.leaveStandby_loads (n : Channel) : (s.leaveStandby n).loads = s.loads := rfl
@[simp] theorem State.leaveStandby_port (n : Channel) : (s.leaveStandby n).port = s.port := rfl
@[simp] theorem State.leaveStandby_store (n : Channel) : (s.leaveStandby n).store = s.store := rfl
@[simp] theorem State.leaveStandby_startup (n : Channel) : (s.leaveStandby n).startup = s.startup := rfl
@[simp] theorem State.leaveStandby_pending (n : Channel) : (s.leaveStandby n).pending = s.pending := rfl

/-! ## State.joinRun -/

@[simp] theorem State.joinRun_powered (n : Channel) : (s.joinRun n).powered = s.powered := rfl
@[simp] theorem State.joinRun_timebase (n : Channel) : (s.joinRun n).timebase = s.timebase := rfl
@[simp] theorem State.joinRun_due (n : Channel) : (s.joinRun n).due = s.due := rfl
@[simp] theorem State.joinRun_sense (n : Channel) : (s.joinRun n).sense = s.sense := rfl
@[simp] theorem State.joinRun_reserve (n : Channel) : (s.joinRun n).reserve = s.reserve := rfl
@[simp] theorem State.joinRun_meter (n : Channel) : (s.joinRun n).meter = s.meter := rfl
@[simp] theorem State.joinRun_budget (n : Channel) : (s.joinRun n).budget = s.budget := rfl
@[simp] theorem State.joinRun_rest (n : Channel) : (s.joinRun n).rest = s.rest := rfl
@[simp] theorem State.joinRun_switches (n : Channel) : (s.joinRun n).switches = s.switches := rfl
@[simp] theorem State.joinRun_holds (n : Channel) : (s.joinRun n).holds = s.holds := rfl
@[simp] theorem State.joinRun_forceOff (n : Channel) : (s.joinRun n).forceOff = s.forceOff := rfl
@[simp] theorem State.joinRun_setup (n : Channel) : (s.joinRun n).setup = s.setup := rfl
@[simp] theorem State.joinRun_loads (n : Channel) : (s.joinRun n).loads = s.loads := rfl
@[simp] theorem State.joinRun_port (n : Channel) : (s.joinRun n).port = s.port := rfl
@[simp] theorem State.joinRun_store (n : Channel) : (s.joinRun n).store = s.store := rfl
@[simp] theorem State.joinRun_startup (n : Channel) : (s.joinRun n).startup = s.startup := rfl
@[simp] theorem State.joinRun_pending (n : Channel) : (s.joinRun n).pending = s.pending := rfl

/-! ## State.leaveRun -/

@[simp] theorem State.leaveRun_powered (n : Channel) : (s.leaveRun n).powered = s.powered := rfl
@[simp] theorem State.leaveRun_timebase (n : Channel) : (s.leaveRun n).timebase = s.timebase := rfl
@[simp] theorem State.leaveRun_due (n : Channel) : (s.leaveRun n).due = s.due := rfl
@[simp] theorem State.leaveRun_sense (n : Channel) : (s.leaveRun n).sense = s.sense := rfl
@[simp] theorem State.leaveRun_reserve (n : Channel) : (s.leaveRun n).reserve = s.reserve := rfl
@[simp] theorem State.leaveRun_meter (n : Channel) : (s.leaveRun n).meter = s.meter := rfl
@[simp] theorem State.leaveRun_budget (n : Channel) : (s.leaveRun n).budget = s.budget := rfl
@[simp] theorem State.leaveRun_rest (n : Channel) : (s.leaveRun n).rest = s.rest := rfl
@[simp] theorem State.leaveRun_switches (n : Channel) : (s.leaveRun n).switches = s.switches := rfl
@[simp] theorem State.leaveRun_holds (n : Channel) : (s.leaveRun n).holds = s.holds := rfl
@[simp] theorem State.leaveRun_forceOff (n : Channel) : (s.leaveRun n).forceOff = s.forceOff := rfl
@[simp] theorem State.leaveRun_setup (n : Channel) : (s.leaveRun n).setup = s.setup := rfl
@[simp] theorem State.leaveRun_loads (n : Channel) : (s.leaveRun n).loads = s.loads := rfl
@[simp] theorem State.leaveRun_port (n : Channel) : (s.leaveRun n).port = s.port := rfl
@[simp] theorem State.leaveRun_store (n : Channel) : (s.leaveRun n).store = s.store := rfl
@[simp] theorem State.leaveRun_startup (n : Channel) : (s.leaveRun n).startup = s.startup := rfl
@[simp] theorem State.leaveRun_pending (n : Channel) : (s.leaveRun n).pending = s.pending := rfl

/-! ## State.sweepWindows -/

@[simp] theorem State.sweepWindows_powered : (s.sweepWindows).powered = s.powered := rfl
@[simp] theorem State.sweepWindows_timebase : (s.sweepWindows).timebase = s.timebase := rfl
@[simp] theorem State.sweepWindows_due : (s.sweepWindows).due = s.due := rfl
@[simp] theorem State.sweepWindows_sense : (s.sweepWindows).sense = s.sense := rfl
@[simp] theorem State.sweepWindows_reserve : (s.sweepWindows).reserve = s.reserve := rfl
@[simp] theorem State.sweepWindows_meter : (s.sweepWindows).meter = s.meter := rfl
@[simp] theorem State.sweepWindows_budget : (s.sweepWindows).budget = s.budget := rfl
@[simp] theorem State.sweepWindows_rest : (s.sweepWindows).rest = s.rest := rfl
@[simp] theorem State.sweepWindows_engine : (s.sweepWindows).engine = s.engine := rfl
@[simp] theorem State.sweepWindows_switches : (s.sweepWindows).switches = s.switches := rfl
@[simp] theorem State.sweepWindows_holds : (s.sweepWindows).holds = s.holds := rfl
@[simp] theorem State.sweepWindows_forceOff : (s.sweepWindows).forceOff = s.forceOff := rfl
@[simp] theorem State.sweepWindows_setup : (s.sweepWindows).setup = s.setup := rfl
@[simp] theorem State.sweepWindows_port : (s.sweepWindows).port = s.port := rfl
@[simp] theorem State.sweepWindows_store : (s.sweepWindows).store = s.store := rfl
@[simp] theorem State.sweepWindows_startup : (s.sweepWindows).startup = s.startup := rfl
@[simp] theorem State.sweepWindows_pending : (s.sweepWindows).pending = s.pending := rfl

/-! ## State.openWindow -/

@[simp] theorem State.openWindow_powered (n : Channel) : (s.openWindow n).powered = s.powered := rfl
@[simp] theorem State.openWindow_timebase (n : Channel) : (s.openWindow n).timebase = s.timebase := rfl
@[simp] theorem State.openWindow_due (n : Channel) : (s.openWindow n).due = s.due := rfl
@[simp] theorem State.openWindow_sense (n : Channel) : (s.openWindow n).sense = s.sense := rfl
@[simp] theorem State.openWindow_reserve (n : Channel) : (s.openWindow n).reserve = s.reserve := rfl
@[simp] theorem State.openWindow_meter (n : Channel) : (s.openWindow n).meter = s.meter := rfl
@[simp] theorem State.openWindow_budget (n : Channel) : (s.openWindow n).budget = s.budget := rfl
@[simp] theorem State.openWindow_rest (n : Channel) : (s.openWindow n).rest = s.rest := rfl
@[simp] theorem State.openWindow_engine (n : Channel) : (s.openWindow n).engine = s.engine := rfl
@[simp] theorem State.openWindow_switches (n : Channel) : (s.openWindow n).switches = s.switches := rfl
@[simp] theorem State.openWindow_holds (n : Channel) : (s.openWindow n).holds = s.holds := rfl
@[simp] theorem State.openWindow_forceOff (n : Channel) : (s.openWindow n).forceOff = s.forceOff := rfl
@[simp] theorem State.openWindow_setup (n : Channel) : (s.openWindow n).setup = s.setup := rfl
@[simp] theorem State.openWindow_port (n : Channel) : (s.openWindow n).port = s.port := rfl
@[simp] theorem State.openWindow_store (n : Channel) : (s.openWindow n).store = s.store := rfl
@[simp] theorem State.openWindow_startup (n : Channel) : (s.openWindow n).startup = s.startup := rfl
@[simp] theorem State.openWindow_pending (n : Channel) : (s.openWindow n).pending = s.pending := rfl

/-! ## State.enterStandby -/

@[simp] theorem State.enterStandby_powered (n : Channel) : (s.enterStandby n).powered = s.powered := rfl
@[simp] theorem State.enterStandby_timebase (n : Channel) : (s.enterStandby n).timebase = s.timebase := rfl
@[simp] theorem State.enterStandby_due (n : Channel) : (s.enterStandby n).due = s.due := rfl
@[simp] theorem State.enterStandby_sense (n : Channel) : (s.enterStandby n).sense = s.sense := rfl
@[simp] theorem State.enterStandby_reserve (n : Channel) : (s.enterStandby n).reserve = s.reserve := rfl
@[simp] theorem State.enterStandby_meter (n : Channel) : (s.enterStandby n).meter = s.meter := rfl
@[simp] theorem State.enterStandby_budget (n : Channel) : (s.enterStandby n).budget = s.budget := rfl
@[simp] theorem State.enterStandby_rest (n : Channel) : (s.enterStandby n).rest = s.rest := rfl
@[simp] theorem State.enterStandby_switches (n : Channel) : (s.enterStandby n).switches = s.switches := rfl
@[simp] theorem State.enterStandby_holds (n : Channel) : (s.enterStandby n).holds = s.holds := rfl
@[simp] theorem State.enterStandby_forceOff (n : Channel) : (s.enterStandby n).forceOff = s.forceOff := rfl
@[simp] theorem State.enterStandby_setup (n : Channel) : (s.enterStandby n).setup = s.setup := rfl
@[simp] theorem State.enterStandby_port (n : Channel) : (s.enterStandby n).port = s.port := rfl
@[simp] theorem State.enterStandby_store (n : Channel) : (s.enterStandby n).store = s.store := rfl
@[simp] theorem State.enterStandby_startup (n : Channel) : (s.enterStandby n).startup = s.startup := rfl
@[simp] theorem State.enterStandby_pending (n : Channel) : (s.enterStandby n).pending = s.pending := rfl

/-! ## State.switchOff -/

@[simp] theorem State.switchOff_powered (n : Channel) : (s.switchOff n).powered = s.powered := rfl
@[simp] theorem State.switchOff_timebase (n : Channel) : (s.switchOff n).timebase = s.timebase := rfl
@[simp] theorem State.switchOff_due (n : Channel) : (s.switchOff n).due = s.due := rfl
@[simp] theorem State.switchOff_sense (n : Channel) : (s.switchOff n).sense = s.sense := rfl
@[simp] theorem State.switchOff_reserve (n : Channel) : (s.switchOff n).reserve = s.reserve := rfl
@[simp] theorem State.switchOff_meter (n : Channel) : (s.switchOff n).meter = s.meter := rfl
@[simp] theorem State.switchOff_budget (n : Channel) : (s.switchOff n).budget = s.budget := rfl
@[simp] theorem State.switchOff_rest (n : Channel) : (s.switchOff n).rest = s.rest := rfl
@[simp] theorem State.switchOff_switches (n : Channel) : (s.switchOff n).switches = s.switches := rfl
@[simp] theorem State.switchOff_holds (n : Channel) : (s.switchOff n).holds = s.holds := rfl
@[simp] theorem State.switchOff_forceOff (n : Channel) : (s.switchOff n).forceOff = s.forceOff := rfl
@[simp] theorem State.switchOff_setup (n : Channel) : (s.switchOff n).setup = s.setup := rfl
@[simp] theorem State.switchOff_port (n : Channel) : (s.switchOff n).port = s.port := rfl
@[simp] theorem State.switchOff_store (n : Channel) : (s.switchOff n).store = s.store := rfl
@[simp] theorem State.switchOff_startup (n : Channel) : (s.switchOff n).startup = s.startup := rfl
@[simp] theorem State.switchOff_pending (n : Channel) : (s.switchOff n).pending = s.pending := rfl

@[simp] theorem State.load_raise (g : Flag) (m : Channel) : (s.raise g).load m = s.load m := rfl
@[simp] theorem State.load_refuse (m : Channel) : (s.refuse).load m = s.load m := rfl
@[simp] theorem State.load_joinStandby (n : Channel) (m : Channel) : (s.joinStandby n).load m = s.load m := rfl
@[simp] theorem State.load_leaveStandby (n : Channel) (m : Channel) : (s.leaveStandby n).load m = s.load m := rfl
@[simp] theorem State.load_joinRun (n : Channel) (m : Channel) : (s.joinRun n).load m = s.load m := rfl
@[simp] theorem State.load_leaveRun (n : Channel) (m : Channel) : (s.leaveRun n).load m = s.load m := rfl

/-! ## State.stampIssued -/

@[simp] theorem State.stampIssued_powered : s.stampIssued.powered = s.powered := by
  unfold State.stampIssued; split <;> rfl

@[simp] theorem State.stampIssued_timebase : s.stampIssued.timebase = s.timebase := by
  unfold State.stampIssued; split <;> rfl

@[simp] theorem State.stampIssued_due : s.stampIssued.due = s.due := by
  unfold State.stampIssued; split <;> rfl

@[simp] theorem State.stampIssued_sense : s.stampIssued.sense = s.sense := by
  unfold State.stampIssued; split <;> rfl

@[simp] theorem State.stampIssued_reserve : s.stampIssued.reserve = s.reserve := by
  unfold State.stampIssued; split <;> rfl

@[simp] theorem State.stampIssued_meter : s.stampIssued.meter = s.meter := by
  unfold State.stampIssued; split <;> rfl

@[simp] theorem State.stampIssued_budget : s.stampIssued.budget = s.budget := by
  unfold State.stampIssued; split <;> rfl

@[simp] theorem State.stampIssued_rest : s.stampIssued.rest = s.rest := by
  unfold State.stampIssued; split <;> rfl

@[simp] theorem State.stampIssued_switches : s.stampIssued.switches = s.switches := by
  unfold State.stampIssued; split <;> rfl

@[simp] theorem State.stampIssued_holds : s.stampIssued.holds = s.holds := by
  unfold State.stampIssued; split <;> rfl

@[simp] theorem State.stampIssued_forceOff : s.stampIssued.forceOff = s.forceOff := by
  unfold State.stampIssued; split <;> rfl

@[simp] theorem State.stampIssued_setup : s.stampIssued.setup = s.setup := by
  unfold State.stampIssued; split <;> rfl

@[simp] theorem State.stampIssued_loads : s.stampIssued.loads = s.loads := by
  unfold State.stampIssued; split <;> rfl

@[simp] theorem State.stampIssued_port : s.stampIssued.port = s.port := by
  unfold State.stampIssued; split <;> rfl

@[simp] theorem State.stampIssued_store : s.stampIssued.store = s.store := by
  unfold State.stampIssued; split <;> rfl

@[simp] theorem State.stampIssued_startup : s.stampIssued.startup = s.startup := by
  unfold State.stampIssued; split <;> rfl

@[simp] theorem State.stampIssued_pending : s.stampIssued.pending = s.pending := by
  unfold State.stampIssued; split <;> rfl

@[simp] theorem State.stampIssued_engine_allowance : s.stampIssued.engine.allowance = s.engine.allowance := by
  unfold State.stampIssued; split <;> rfl

@[simp] theorem State.stampIssued_engine_level : s.stampIssued.engine.level = s.engine.level := by
  unfold State.stampIssued; split <;> rfl

@[simp] theorem State.stampIssued_engine_spacing : s.stampIssued.engine.spacing = s.engine.spacing := by
  unfold State.stampIssued; split <;> rfl

@[simp] theorem State.stampIssued_engine_holdOff : s.stampIssued.engine.holdOff = s.engine.holdOff := by
  unfold State.stampIssued; split <;> rfl

@[simp] theorem State.stampIssued_engine_runList : s.stampIssued.engine.runList = s.engine.runList := by
  unfold State.stampIssued; split <;> rfl

@[simp] theorem State.stampIssued_engine_standbyList : s.stampIssued.engine.standbyList = s.engine.standbyList := by
  unfold State.stampIssued; split <;> rfl

@[simp] theorem State.load_stampIssued (m : Channel) : s.stampIssued.load m = s.load m := by
  simp [State.load]

end Sys2Proof.Machine
end

