-- ==== Sys2Proof/Laws/Ops.lean ====
section
/-! SUPPORT. What each shared operation of Machine/Ops.lean does, said once: the record it acts on, the other records, the
engine and the port. -/

namespace Sys2Proof.Machine

variable (s : State)

/-! ## Ticks (R2) -/

/-- Work that is due is taken, and is then no longer due. -/
theorem State.takeWork_of {w : TickWork} {f : State → State} (h : w ∈ s.due) : s.takeWork w f = f (s.workTaken w) := by
  simp [State.takeWork, h]

/-- Work that is not due changes nothing (log 1). -/
theorem State.takeWork_not {w : TickWork} {f : State → State} (h : w ∉ s.due) : s.takeWork w f = s := by
  simp [State.takeWork, h]

/-- A command of a tick has its effect or leaves the state. -/
theorem State.takeWork_cases (w : TickWork) (f : State → State) :
    (s.takeWork w f = f (s.workTaken w) ∧ w ∈ s.due) ∨ (s.takeWork w f = s ∧ w ∉ s.due) := by
  by_cases h : w ∈ s.due
  · exact .inl ⟨s.takeWork_of h, h⟩
  · exact .inr ⟨s.takeWork_not h, h⟩

/-- Each piece of work falls once at a tick. -/
theorem workAt_nodup (place : Nat) : (workAt place).Nodup := by
  have h : ([.line] ++ [.sample] ++ secondTickWork : List TickWork).Nodup := by decide
  refine h.sublist ?_
  unfold workAt
  refine List.Sublist.append (List.Sublist.append ?_ ?_) ?_ <;> split <;> simp

/-! ## Outputs and windows -/

@[simp] theorem State.outputs_get (n : Channel) : s.outputs[n] = (s.load n).on := by
  simp [State.outputs]

/-- The end of an event changes a record in its window alone (R164). -/
@[simp] theorem State.load_sweepWindows (n : Channel) :
    s.sweepWindows.load n = { s.load n with window := (s.load n).window.swept n s.outputs } := by
  simp [State.sweepWindows]

/-- A window swept is the window or closed. -/
theorem Window.swept_cases (n : Channel) (now : Vector Bool 12) (w : Window) :
    w.swept n now = w ∨ w.swept n now = .closed := by
  unfold Window.swept
  split
  · exact .inl rfl
  · split
    · exact .inr rfl
    · exact .inl rfl

@[simp] theorem Window.swept_closed (n : Channel) (now : Vector Bool 12) : Window.swept n now .closed = .closed := rfl

/-- After the end of an event no open window holds another line of another channel than the one that stands (R164). -/
theorem State.sweepWindows_windowsLaw : s.sweepWindows.windowsLaw := by
  have ho : s.sweepWindows.outputs = s.outputs := by
    apply Vector.ext
    intro i hi
    simp [State.outputs, Load.on]
  intro n o h m hm
  rw [ho]
  simp only [State.load_sweepWindows, Window.swept] at h
  cases hw : (s.load n).window.opening with
  | none => simp [hw] at h
  | some p =>
    simp only [hw] at h
    split at h
    · simp [Window.opening] at h
    · rename_i hs
      rw [hw] at h
      obtain rfl : p = o := by simpa using h
      have hc : m ∈ channels := (by decide : ∀ k : Channel, k ∈ channels) m
      by_contra hne
      exact hs (by simp only [Opening.spoiled, List.any_eq_true]; exact ⟨m, hc, by simpa [hm] using hne⟩)

/-! ## STANDBY and IDLE -/

/-- Entering STANDBY (R18, R19, R93). -/
theorem State.load_enterStandby (m n : Channel) :
    (s.enterStandby n).load m =
      if m = n then
        { s.load n with state := .standby, reason := .standby (s.entryReason (s.load n)), retryTimer := none }
      else s.load m := by
  simp only [State.enterStandby, State.load_joinStandby, State.load_modify]

@[simp] theorem State.enterStandby_engine_runList (n : Channel) :
    (s.enterStandby n).engine.runList = s.engine.runList := rfl

/-! ## The start (R98) -/

/-- A start that is not made leaves the state as it is (R90, R98). -/
theorem State.start_refused {n : Channel} (h : ¬((s.load n).state = .standby ∧ s.engine.exhausted = false)) :
    s.start n = s := by
  have : ((s.load n).state == LoadState.standby && !s.engine.exhausted) = false := by
    cases hx : s.engine.exhausted <;> simp_all
  simp [State.start, this]

/-- The output lines as a start of record n leaves them (R144). -/
def State.linesAfterStart (n : Channel) : Vector Bool 12 := Vector.ofFn fun k => if k = n then true else (s.load k).on

/-- The record that a start makes, and every other record (R98, R159). -/
theorem State.load_start {n : Channel} (hs : (s.load n).state = .standby) (hx : s.engine.exhausted = false) (m : Channel) :
    (s.start n).load m =
      if m = n then
        { (s.load n).started s.engine.seq with
          window := if (s.load n).learnEnable
            then .settling ⟨s.sense.pub.current, s.sense.pub.valid, s.sense.dir, s.linesAfterStart n⟩ else .closed }
      else s.load m := by
  have hl : ∀ (t : State) (k : Channel), State.load { t with engine := { t.engine with spacing := 0 } } k = t.load k :=
    fun _ _ => rfl
  have hg : ((s.load n).state == LoadState.standby && !s.engine.exhausted) = true := by simp [hs, hx]
  simp only [State.start, hg, if_true, State.openWindow, State.load_modify]
  by_cases hm : m = n
  · subst hm
    have ho : State.outputs { (((s.leaveStandby m).modify m (Load.started s.engine.seq)).stampIssued.joinRun m) with
        engine := { (((s.leaveStandby m).modify m (Load.started s.engine.seq)).stampIssued.joinRun m).engine with
          spacing := 0 } } = s.linesAfterStart m := by
      apply Vector.ext
      intro i hi
      simp only [State.outputs, State.linesAfterStart, Vector.getElem_ofFn, hl, State.load_joinRun, State.load_stampIssued,
        State.load_modify, State.load_leaveStandby]
      split <;> simp [Load.on, Load.started]
    simp only [if_true, hl, State.load_joinRun, State.load_stampIssued, State.load_modify_self, State.load_leaveStandby, ho]
    by_cases hle : (s.load m).learnEnable = true
    · simp [hle, Load.started]
    · simp [hle, Load.started]
  · simp only [hm, if_false, hl, State.load_joinRun, State.load_stampIssued]
    rw [State.load_modify_of_ne _ _ hm]
    rfl

/-- The lists and the spacing counter after a start (R93, R94, R98, R121). -/
theorem State.start_engine {n : Channel} (hs : (s.load n).state = .standby) (hx : s.engine.exhausted = false) :
    (s.start n).engine.runList = s.engine.runList ++ [n]
      ∧ (s.start n).engine.standbyList = s.engine.standbyList.erase n
      ∧ (s.start n).engine.spacing = 0
      ∧ (s.start n).engine.holdOff = s.engine.holdOff
      ∧ (s.start n).engine.allowance = s.engine.allowance
      ∧ (s.start n).engine.level = s.engine.level := by
  have hg : ((s.load n).state == LoadState.standby && !s.engine.exhausted) = true := by simp [hs, hx]
  simp only [State.start, hg, if_true, State.openWindow_engine]
  simp [State.joinRun, State.leaveStandby]

/-- A start acts on the records and the engine alone. -/
theorem State.start_frame (n : Channel) :
    (s.start n).port = s.port ∧ (s.start n).sense = s.sense ∧ (s.start n).reserve = s.reserve
      ∧ (s.start n).meter = s.meter ∧ (s.start n).budget = s.budget ∧ (s.start n).rest = s.rest
      ∧ (s.start n).forceOff = s.forceOff ∧ (s.start n).setup = s.setup ∧ (s.start n).holds = s.holds
      ∧ (s.start n).switches = s.switches ∧ (s.start n).store = s.store ∧ (s.start n).startup = s.startup
      ∧ (s.start n).powered = s.powered ∧ (s.start n).timebase = s.timebase ∧ (s.start n).due = s.due
      ∧ (s.start n).pending = s.pending := by
  unfold State.start
  split
  · simp
  · simp

/-- The essential check is a start or nothing (R102). -/
theorem State.essentialCheck_cases (n : Channel) :
    s.essentialCheck n = s
      ∨ (s.essentialCheck n = s.start n ∧ (s.load n).state = .standby ∧ (s.load n).cls = 0
        ∧ s.eligible (s.load n) = true) := by
  by_cases h : ((s.load n).state == .standby && (s.load n).cls == 0 && s.eligible (s.load n)) = true
  · refine .inr ⟨by simp only [State.essentialCheck, h, if_true], ?_⟩
    simpa [and_assoc] using h
  · exact .inl (by simp only [State.essentialCheck, h]; rfl)

/-! ## Leaving the Run List (R100) -/

/-- The output of one record goes off, and the others keep theirs. -/
theorem State.load_switchOff (m n : Channel) :
    (s.switchOff n).load m = if m = n then (s.load n).switchedOff else s.load m := by
  simp only [State.switchOff, State.load_leaveRun, State.load_modify]

/-- A budget cut of an on record (R100): STANDBY with the reason of R19 and the shed mark. -/
theorem State.load_budgetCut {n : Channel} (h : (s.load n).on = true) (m : Channel) :
    (s.budgetCut n).load m =
      if m = n then
        { (s.load n).switchedOff with
          state := .standby
          reason := .standby ((s.switchOff n).entryReason (s.load n).switchedOff)
          retryTimer := none
          shed := true }
      else s.load m := by
  simp only [State.budgetCut, h, if_true]
  have hl : ∀ t : State, ∀ k, State.load { t with engine := { t.engine with holdOff := k } } m = t.load m := fun _ _ => rfl
  rw [hl, State.load_raise, State.load_modify, State.load_enterStandby, State.load_enterStandby, State.load_switchOff,
    State.load_switchOff]
  by_cases hm : m = n <;> simp [hm]

/-- A record that is not on is not cut. -/
theorem State.budgetCut_off {n : Channel} (h : (s.load n).on = false) : s.budgetCut n = s := by
  simp [State.budgetCut, h]

/-- A cut of an on record to IDLE (R83, R100). -/
theorem State.load_cutToIdle {n : Channel} (h : (s.load n).on = true) (m : Channel) :
    (s.cutToIdle n).load m = if m = n then (s.load n).switchedOff.toIdle else s.load m := by
  simp only [State.cutToIdle, h, if_true, State.load_modify, State.load_switchOff]
  by_cases hm : m = n <;> simp [hm]

/-- A cut of an on record by FORCE_OFF (R100, R146). -/
theorem State.load_forcedCut {n : Channel} (h : (s.load n).on = true) (m : Channel) :
    (s.forcedCut n).load m =
      if m = n then
        { (s.load n).switchedOff with
          state := .standby
          reason := .standby ((s.switchOff n).entryReason (s.load n).switchedOff)
          retryTimer := none }
      else s.load m := by
  simp only [State.forcedCut, h, if_true, State.load_enterStandby, State.load_switchOff]
  by_cases hm : m = n <;> simp [hm]

/-- A record whose output was cut and started again keeps its dwell and its diagnostic filter; any other is as the event left
it (R144). -/
theorem Load.keepLine_cases (before after : Load) :
    (before.keepLine after = after ∧ ¬(before.on = true ∧ after.on = true))
      ∨ before.keepLine after
        = { after with dwell := before.dwell, blanking := before.blanking, diagRun := before.diagRun } := by
  unfold Load.keepLine
  cases before.on <;> cases after.on <;> simp

/-- Keeping the line changes no state. -/
@[simp] theorem Load.keepLine_state (before after : Load) : (before.keepLine after).state = after.state := by
  unfold Load.keepLine; split <;> rfl

/-- The deferred cut is one of the two cuts, by the cause (R101, R136). -/
theorem State.deferredCut_cases (n : Channel) :
    (s.deferredCut n = s.cutToIdle n ∧ (s.load n).reason = .deferred .requestOff)
      ∨ (s.deferredCut n = s.budgetCut n ∧ (s.load n).reason ≠ .deferred .requestOff) := by
  unfold State.deferredCut
  split
  · next h => exact .inl ⟨rfl, h⟩
  · next h => exact .inr ⟨rfl, h⟩

end Sys2Proof.Machine
end

