-- ==== Sys2Proof/Tests/Slice0.lean ====
section
/-! SUPPORT. The model's own tests: refused ill-formed terms, steps with the results of the spec's worked figures, and a witness
for the hypotheses of every statement that has some. -/

open Sys2Proof Sys2Proof.Machine

namespace Sys2Proof.Tests

/-! ## Helpers -/

/-- The state a command answers. -/
def after (c : Instr) (s : State) : State :=
  match exec c s with
  | .next t => t
  | .fault _ => s
  | .refused _ => s

/-- A part in READY with SETUP asserted, at a second tick whose work is due. -/
def part : State :=
  { State.reset with startup := ⟨true, 25, none⟩, setup := ⟨true, 0⟩, timebase := 10000, due := workAt 10000 }

/-- That part with record r at channel 0, and the lists that its state asks for. -/
def one (r : Load) : State :=
  { part with
    loads := part.loads.set 0 r
    engine := { part.engine with
      seq := 2, runList := if r.on then [0] else [], standbyList := if r.state = .standby then [0] else [] } }

def idle : Load := { state := .idle, cls := 3 }
def standby : Load := { idle with state := .standby, request := true, reason := .standby .queued, requestStamp := some 0 }
def starting : Load :=
  { idle with state := .starting, request := true, requestStamp := some 0, startStamp := some 1, settleTimer := 1 }
def running : Load := { starting with state := .running, settleTimer := 0, cleanRun := 299, retriesUsed := 2 }
def deferred : Load :=
  { starting with
    state := .deferred, reason := .deferred .budget, settleTimer := 0, waitHold := true, holdTimer := 1, holdLine := some 0 }
def deferredOff : Load := { deferred with request := false, reason := .deferred .requestOff }
def waiting : Load := { deferred with waitHold := false, holdTimer := 0, waitMinOn := true, minOn := 5, dwell := 5 }
def tripped : Load := { standby with state := .tripped, reason := .none, retriesUsed := 1, retryTimer := some 1 }
def locked : Load := { idle with state := .locked, retriesUsed := 4 }

/-- A part with this change mask armed. -/
def withMask (m : Wide) (s : State) : State := { s with port := { s.port with mask := some m } }

/-- The 4 argument bytes of a small number. -/
def arg (k : Byte) : Vector Byte 4 := #v[0, 0, 0, k]

/-- Two bytes of a number. -/
def two (n : Nat) : List Byte := halfBytes (BitVec.ofNat 16 n)

/-- The bytes of a list, as a record. -/
def rec28 (l : List Byte) : Vector Byte 28 := Vector.ofFn fun i => l.getD i.val 0
def rec32 (l : List Byte) : Vector Byte 32 := Vector.ofFn fun i => l.getD i.val 0

/-! ## Well-formedness and words -/

theorem test_partial_of_lists_refused : (Instr.partialWrite .lists 0 [1]).wellFormed = false := by decide
theorem test_partial_beyond_space_refused : (Instr.partialWrite .profile 3 [1]).wellFormed = false := by decide
theorem test_partial_of_nothing_refused : (Instr.partialWrite .load 0 []).wellFormed = false := by decide
theorem test_partial_of_whole_record_refused : (Instr.partialWrite .command 0 [0, 0, 0, 0]).wellFormed = false := by decide

/-! ## The timebase (R2) -/

/-- The 10th capture tick from power-on is a line tick, and the 9th is none. -/
theorem test_tenth_capture_tick_is_line_tick :
    (after (.captureTick true) { State.reset with timebase := 9 }).due = [.line]
      ∧ (after (.captureTick true) { State.reset with timebase := 8 }).due = [] := by decide

/-- A second tick counts dwell once, and the third sample tick of a second, at capture tick 7,500, does not count it. -/
theorem test_second_tick_counts_dwell_once :
    ((after .dwellIncrement (after .dwellIncrement (one idle))).load 0).dwell = 1
      ∧ ((after .dwellIncrement { one idle with timebase := 7500, due := workAt 7500 }).load 0).dwell = 0 := by decide

theorem test_no_word_spells_a_command : decodeTableWord 16 0xFFFF = none := by decide

/-! ## Battery Sense (2.9 to 2.12, 4.7) -/

/-- The row of counter 5,000 of 2.9. -/
def capture (counter stamp : Nat) (high : Bool) : State :=
  after (.pulse high) (after (.captureTick true) { part with
    sense := { part.sense with counter := counter - 1, cq := false, stamp := some stamp } })

theorem test_pulse_period_of_four : (capture 5000 4996 true).sense.period = some 4 := by decide
theorem test_pulse_of_other_direction : (capture 5007 5004 false).sense.period = none := by decide
theorem test_capture_counter_wraps :
    (after (.captureTick true) { part with sense := { part.sense with counter := 16777215 } }).sense.counter = 0 := by decide

/-- The published set of a sample tick after a discharge pulse with this stamp and period, from this I_f. -/
def published (counter stamp period : Nat) (filtered : Int) (code : BitVec 12) : Published :=
  (after (.sampleTick code) { part with
    sense := { part.sense with
      counter := counter, stamp := some stamp, period := some period, pub := { part.sense.pub with filtered := filtered } } }).sense.pub

/-- 2.10, the row of 102,530: the falling bound, and the step toward zero. -/
theorem test_sample_falling_bound : published 102530 100000 72 50000 1550 = ⟨1422, true, 43928, 12400, 13278⟩ := by decide

/-- 4.7: the winter evening's set. -/
theorem test_sample_chain : published 100030 100000 72 46000 1504 = ⟨50000, true, 46500, 12032, 12962⟩ := by decide

/-- 2.12: an I_f of −7 mA stays; the quiet time of 60 s is exceeded at E = 600,001 (R33). -/
theorem test_filter_truncates : filterStep 3 (-7) 0 = -7 ∧ filterStep 3 (-10) 0 = -9 := by decide
theorem test_quiet_expiry_past_bound :
    (after .quietExpiry { part with sense := { part.sense with counter := 600001, stamp := some 0, period := some 9 } }).sense.stamp
      = none := by decide

/-! ## Reserve (3.3, 3.6) -/

/-- Charge pulse 2 of the worked figure of 3.3. -/
theorem test_charge_pulse_stops_at_capacity :
    ((⟨some 359999740, 920, 0, 0, false, false⟩ : Reserve).chargePulse { efficiency := 947 }).q = some 360000000 := by decide
theorem test_charge_pulse_carries_remainder :
    ((⟨some 359999400, 0, 0, 0, false, false⟩ : Reserve).chargePulse { efficiency := 947 }) =
      ⟨some 359999740, 920, 0, 0, false, false⟩ := by decide

/-- 3.6: 12,150 mV maps to 275 per-mille, and a 200 Ah battery at 370 is re-anchored to it. -/
def rested (sensed : Nat) : State :=
  { part with
    meter := { part.meter with capacity := 200 }
    sense := { part.sense with pub := { part.sense.pub with sensed := sensed } }
    reserve := ⟨some 266400000, 0, 0, 0, false, true⟩ }

theorem test_re_anchor_beyond_tolerance : (after .restReAnchor (rested 12150)).reserve.q = some 198000000 := by decide
theorem test_re_anchor_within_tolerance : (after .restReAnchor (rested 12200)).reserve.q = some 266400000 := by decide
theorem test_full_sync_sets_capacity :
    (after .fullSync { part with reserve := { part.reserve with syncDue := true } }).reserve.q = some 360000000 := by decide
theorem test_set_reserve_clamps : (after (.setReserve #v[0, 0, 0xFF, 0xFF]) part).reserve.q = some 360000000 := by decide
theorem test_clear_anchor : (after (.clearAnchor (arg 0)) (rested 0)).reserve.q = none := by decide

/-! ## Profiles (4.6, R60, R71) -/

theorem test_meter_commit_clamps :
    (after (.meterProfileCommit (rec32 (two 5000))) { part with port := { part.port with mask := some 1 } }).meter.capacity
      = 1000 := by decide

/-- R71: an F_full of 100 beside an F_floor of 150 becomes 151. -/
theorem test_budget_commit_corrects :
    (after (.budgetProfileCommit (rec32 ([0, 0, 0, 0] ++ two 100)))
      { part with port := { part.port with mask := some 16 } }).budget.fFull = 151 := by decide
theorem test_rest_commit_refused_whole :
    (after (.restTableCommit (rec32 [])) part).rest = factoryRest
      ∧ (after (.restTableCommit (rec32 [])) part).port.refusedMark = true := by
  decide

/-! ## The evaluation (7.8) -/

/-- A load of the winter evening. -/
def evening (cls draw dwell request start : Nat) : Load :=
  { running with cls := cls, declaredDraw := draw, dwell := dwell, requestStamp := some request, startStamp := some start }

/-- The winter evening of 7.8, with its allowance of 25,500 mA from the figures of 4.7. -/
def winter : State :=
  { part with
    loads := #v[{}, evening 2 120 3000 3 4, { evening 3 450 900 6 7 with minOn := 300, minOff := 300 },
      evening 6 600 40 13 14, {}, { evening 7 250 1500 8 9 with holdLine := some 0 }, {}, {}, evening 6 1800 200 11 12, {}, {}, {}]
    engine := { part.engine with spacing := 40, seq := 15, runList := [1, 2, 5, 8, 3] }
    holds := #v[⟨true, 0⟩, .released, .released, .released]
    meter := { part.meter with capacity := 200 }
    budget := { part.budget with fFull := 600, fFloor := 200, aMax := 6000, margin := 150 }
    reserve := { part.reserve with q := some 266400000 }
    sense := { part.sense with pub := ⟨50000, true, 46500, 12032, 12962⟩ } }

theorem test_winter_lists :
    (after .evaluation winter).engine.runList = [1, 2, 5]
      ∧ (after .evaluation winter).engine.standbyList = [8, 3] := by decide
theorem test_winter_counters :
    (after .evaluation winter).engine.allowance = 25500 ∧ (after .evaluation winter).engine.level = .shedding
      ∧ (after .evaluation winter).engine.spacing = 41 ∧ (after .evaluation winter).engine.holdOff = 4 := by decide

/-! ## Second ticks (6.10, 8.9, 9.5) -/

theorem test_settle_end_runs : ((after (.settleEnd 0) (one starting)).load 0).state = .running := by decide
theorem test_dwell_stays_at_top : ((after .dwellIncrement (one { idle with dwell := 65535 })).load 0).dwell
    = 65535 := by decide
theorem test_clean_run_clears_retries : ((after (.cleanRun 0) (one running)).load 0).retriesUsed = 0 := by decide
theorem test_min_off_check_starts_essential_at_its_min_off :
    ((after .minOffExpiry (one { standby with cls := 0, minOff := 30, dwell := 30 })).load 0).state = .starting
      ∧ ((after .minOffExpiry (one { standby with cls := 0, minOff := 30, dwell := 29 })).load 0).state
        = .standby := by decide
theorem test_hold_limit_expiry_cuts :
    ((after (.holdLimitExpiry 0) (one deferred)).load 0).shed = true
      ∧ (after (.holdLimitExpiry 0) (one deferred)).port.flags = 0x11 := by decide
theorem test_min_on_reached_cuts : ((after (.minOnReached 0) (one waiting)).load 0).state = .standby := by decide
theorem test_retry_expiry_queues :
    ((after (.retryExpiry 0) (one tripped)).load 0).reason = .standby .queued := by decide

/-! ## Lines, FORCE_OFF and trips (8.9, 9.10, 13.4) -/

theorem test_hold_release_first :
    (after (.holdRelease 0) { one deferred with holds := #v[⟨true, 10⟩, .released, .released, .released] }).port.flags = 0x01 := by
  decide +kernel
theorem test_hold_assertion :
    (after (.holdAssertion 2) { part with holds := #v[.released, .released, ⟨false, 10⟩, .released] }).holds[2]
      = ⟨true, 0⟩ := by
  decide
theorem test_setup_release : (after .setupLevelChange { part with setup := ⟨true, 10⟩ }).setup = ⟨false, 0⟩ := by decide
theorem test_line_tick_tenth_sample :
    (after (.lineTick { LineLevels.released with forceOff := false }) { part with forceOff := ⟨false, 9⟩ }).forceOff
      = ⟨false, 10⟩ := by
  decide

/-- R89: after a restart a held debounce of 10 ms waits for stage 2; until then the factory 30 ms holds. -/
def restarted (kept : Option (Vector ChannelWords 12)) : State :=
  { part with
    startup := ⟨false, 5, kept⟩, budget := { part.budget with debounce := 10 }
    switches := part.switches.set 0 ⟨false, 9, false⟩ }

theorem test_debounce_of_start_up :
    (after (.lineTick { LineLevels.released with sw := 0 }) (restarted none)).switches[0] = ⟨false, 10, false⟩
      ∧ (after (.lineTick { LineLevels.released with sw := 0 }) (restarted (some factoryImage.channels))).switches[0]
        = ⟨false, 10, true⟩ := by decide
theorem test_force_off_assertion :
    ((after .forceOffAssertion { one running with forceOff := ⟨false, 10⟩ }).load 0).reason = .standby .forced := by decide
theorem test_force_off_cuts_request_off :
    ((after .forceOffAssertion { one deferredOff with forceOff := ⟨false, 10⟩ }).load 0).state = .idle := by decide
theorem test_force_off_release_keeps_min_off :
    ((after .forceOffRelease
      { one { standby with cls := 0, minOff := 30, dwell := 20 } with forceOff := ⟨true, 10⟩ }).load 0).state
        = .standby := by decide

/-- The delays of R151. -/
theorem test_retry_delays : retryDelay 5 1 = 5 ∧ retryDelay 5 7 = 320 ∧ retryDelay 255 4 = 2040
    ∧ retryDelay 255 5 = 3600 := by
  decide
theorem test_first_trip : ((after (.trip 0) (one { running with diagRun := 3, retriesUsed := 0 })).load 0).retryTimer
    = some 5 := by
  decide
theorem test_fourth_trip_locks :
    ((after (.trip 0) (one { running with diagRun := 3, retriesUsed := 3 })).load 0).state = .locked := by decide

/-- The press of a TOGGLE switch. -/
def pressed (r : Load) : State :=
  after (.stableLevelChange 0)
    { one { r with switchMode := .toggle } with switches := part.switches.set 0 ⟨false, 30, true⟩ }

theorem test_press_at_idle_queues : ((pressed idle).load 0).state = .standby := by decide
theorem test_press_at_locked_refused : (pressed locked).port.refusedMark = true := by decide

/-! ## Load records (13.5, R10, R14, R16) -/

/-- Channel 5 of 13.5. -/
def heater : Vector Byte 28 :=
  rec28 ([0, 1, 7, 0] ++ two 250 ++ [0, 0, 2, 1, 1, 1] ++ two 0 ++ two 0 ++ two 600 ++ [3, 5, 0])

theorem test_enrolment :
    (after (.loadCommit 5 heater) part).load 5
      = { state := .idle, cls := 7, declaredDraw := 250, switchMode := .toggle, holdLine := some 0 }
    ∧ (after (.loadCommit 5 heater) { part with setup := .released }).load 5 = {}
      ∧ (after (.loadCommit 5 heater) { part with setup := .released }).port.refusedMark = true := by decide

/-- One commit that writes request OFF and the mode FOLLOW to a running essential whose switch is pressed. -/
def passing : State :=
  { withMask 0x208 (one { running with cls := 0, dwell := 70, blanking := 4, diagRun := 2 }) with
    switches := part.switches.set 0 ⟨true, 0, false⟩ }

/-- It is cut and started again, and its line does not change (R144); and R78's own case: ON and then the FOLLOW setting of
OFF, at an idle essential. -/
theorem test_two_requests_in_one_commit :
    (let t := after (.loadCommit 0 (rec28 [0, 1, 0, 0, 0, 0, 0, 0, 0, 2])) passing
     (t.load 0).state = .starting ∧ (t.load 0).startStamp = some 3 ∧ (t.load 0).dwell = 70 ∧ (t.load 0).blanking = 4
      ∧ (t.load 0).diagRun = 2)
    ∧ (let t := after (.loadCommit 0 (rec28 [0, 1, 0, 1, 0, 0, 0, 0, 0, 2])) (withMask 0x208 (one { idle with cls := 0 }))
       (t.load 0).state = .idle ∧ (t.load 0).dwell = 0 ∧ t.engine.spacing = 0 ∧ t.engine.seq = 4) := by decide +kernel

/-! ## Port, commands and start-up (11.4, 11.6, 12.1) -/

theorem test_pointer_set : (after (.pointerSet 0x5C 0x04 0x06) part).port.index = 6 := by decide
theorem test_partial_write_marks : (after (.partialWrite .load 3 [1, 2]) part).port.partialMark = true := by decide
theorem test_pointer_set_beyond_space : after (.pointerSet 0x5C 0x04 0x07) part = part := by decide +kernel
theorem test_lists_write_moves_over_records : (after (.listsWrite 0 (List.replicate 13 0)) part).port.index = 1 := by decide
theorem test_read_of_list :
    (after (.readTransaction 0x5C 4) { one running with port := { part.port with space := .lists } }).port.sent
      = [1, 0, 0xFF, 0xFF] := by decide
theorem test_status_snapshot_clears_refused : (after .statusSnapshot part.refuse).port.refusedMark = false := by decide
theorem test_status_commit_clears_flags :
    (after (.statusCommit (Vector.replicate 40 0x01)) { part with port := { part.port with flags := 0x03 } }).port.flags = 0x02 := by
  decide
theorem test_clear_fault_at_locked : ((after (.clearFault (arg 0)) (one locked)).load 0).retriesUsed = 0 := by decide
theorem test_clear_fault_bad_channel : (after (.clearFault (arg 12)) part).port.last = ⟨0x00, 0xFE, 0x02, 1⟩ := by decide
theorem test_forget_draw : ((after (.forgetDraw (arg 0)) (one { idle with learnedDraw := some 473 })).load 0).learnedDraw = none := by
  decide
theorem test_set_change_mask : (after (.setChangeMask (arg 4)) part).port.mask = some 4 := by decide

/-- 10.6: the fold of 4,730 mA on 440 and on none. -/
theorem test_fold : fold (some 440) 4730 = 457 ∧ fold none 4730 = 473 := by decide

/-- R188: the words of an erased store sum to 284 times FFh with FFFFh, so it fails the checksum. -/
theorem test_erased_store_is_bad : passesChecksum erasedStore = false := by decide +kernel
theorem test_saved_image_passes : ((after (.saveProfile (arg 0)) part).store.saving.map passesChecksum)
    = some true := by decide +kernel
/-- R188, of a record whose thirteen stored fields all differ from each other's defaults. -/
theorem test_saved_channel_fields :
    ((after (.saveProfile (arg 0)) (one { idle with
        learnedDraw := some 473, switchMode := .toggle, holdLine := some 3, minOn := 30, minOff := 40
        restartPolicy := .startOn })).store.saving.map fun image => (image.channels[0], image.channels[1].enrolled))
      = some (⟨0x01, 3, 100, 473, 2, 0x01, 0x04, 30, 40, 600, 3, 5, 0x01⟩, 0x00) := by decide
theorem test_stage_2_of_erased_store :
    (after .startupStage2 { State.reset with startup := ⟨false, 20, none⟩ }).port.flags = 0x40 := by decide +kernel
theorem test_stage_3_of_factory :
    (after .startupStage3 { State.reset with startup := ⟨false, 25, some factoryImage.channels⟩ }).startup.ready
      = true := by decide
theorem test_restart_begins : (after (.restart (arg 0)) (one running)).load 0 = { idle with dwell := 0 } := by decide
theorem test_restart_pending :
    (after (.restart (arg 0)) { part with store := { part.store with saving := some erasedStore } }).port.last
      = ⟨0x05, 0xFF, 0x05, 1⟩ := by decide
theorem test_save_completion_fails :
    (after (.saveCompletion erasedStore) { part with store := { part.store with saving := some factoryImage } }).port.flags = 0x40 := by
  decide
theorem test_power_on_reads_straps : (after (.powerOn true false) part).port.address = 0x5E := by decide
theorem test_loss_of_power_unpowers : (after (.lossOfPower .duringReadBack) part).powered = false := by decide

/-! ## Witnesses

Each shows states and operands that meet the hypotheses of the statement it names, clause by clause, at the boundary where a
clause has one. -/

theorem in_order (s : State)
    (h : (decide s.recordsLaw && decide s.listLaw && decide s.counterLaw && decide s.stampsDistinct && decide s.listsOrdered) = true) :
    s.listsInOrder := by
  simp only [Bool.and_eq_true, decide_eq_true_eq] at h
  exact ⟨h.1.1.1.1, h.1.1.1.2, h.1.1.2, h.1.2, h.2⟩

/-- A part whose V_comp gives the whole A_max. -/
def lit (s : State) : State := { s with sense := { s.sense with pub := { s.sense.pub with comp := 12400 } } }

/-- A part whose counter is exhausted. -/
def spent (s : State) : State := { s with engine := { s.engine with seq := 4294967295, exhausted := true } }

/-- A part whose counter stands at its last stamp. -/
def lastOne (s : State) : State := { s with engine := { s.engine with seq := 4294967295 } }

def withForceOff (f : Filter) (s : State) : State := { s with forceOff := f }
def withHold (f : Filter) (s : State) : State := { s with holds := s.holds.set 0 f }
def withDue (s : State) : State := { s with switches := s.switches.set 0 ⟨false, 30, true⟩ }
def saving (s : State) : State := { s with store := { s.store with saving := some factoryImage } }
def essential : Load := { standby with cls := 0, minOff := 30, dwell := 30 }

theorem witness_StepTakesFrontCommand : State.reset.pending = [] := by decide
theorem witness_PortIsSilentInLoading : State.reset.startup.ready = false := by decide
theorem witness_TicksFallInFixedRatio :
    State.reset.powered = true ∧ State.reset.timebase = 0 ∧ State.reset.due = []
      ∧ (Instr.work .evaluation = some .evaluation ∧ .evaluation ∉ State.reset.due ∧ .evaluation ∈ part.due)
      ∧ Instr.work .statusSnapshot = none ∧ .sample ∉ State.reset.due
      ∧ (∃ t, exec .evaluation part = .next t) ∧ ∃ t, exec .statusSnapshot part = .next t :=
  ⟨by decide, by decide, by decide, by decide, by decide, by decide, ⟨_, rfl⟩, _, rfl⟩
theorem witness_CaptureTickCountsAndSamples :
    let s := { part with sense := { part.sense with counter := 16777215 } }
    s.powered = true ∧ s.sense.counter ≤ 16777215 := by decide
theorem witness_PulseFormsPeriodAndStamp :
    part.powered = true ∧ part.sense.edge = false ∧ part.reserve.q = none
      ∧ (after (.captureTick true) (after (.captureTick false) part)).sense.edge = true := by decide
theorem witness_PulsesCountIntoReserve :
    let s := { rested 0 with sense := { part.sense with edge := true } }
    s.powered = true ∧ s.sense.edge = true ∧ s.reserve.q = some 266400000
      ∧ 266400000 + (s.meter.pulseWeight * s.meter.efficiency + s.reserve.remainder) / 1000 < s.meter.capacity * 3600000
      ∧ 360000000 ≤ 360000000 + (s.meter.pulseWeight * s.meter.efficiency + s.reserve.remainder) / 1000 := by decide
theorem witness_QuietTestDiscardsAnOldStamp :
    part.powered = true ∧ .sample ∈ part.due ∧ part.sense.stamp = none
      ∧ (600000 + 16777216 - 0) % 16777216 ≤ part.meter.quietTime * 10000
      ∧ part.meter.quietTime * 10000 < (600001 + 16777216 - 0) % 16777216 := by decide
theorem witness_SampleTickFormsEstimate :
    let s := { part with sense := { part.sense with stamp := some 0, period := some 2 } }
    s.powered = true ∧ .sample ∈ s.due ∧ (after (.sampleTick 0) part).sense.period = none
      ∧ (after (.sampleTick 0) s).sense.stamp = some 0
      ∧ (after (.sampleTick 0) s).sense.period = some 2 := by decide
theorem witness_SampleTickFiltersAndConverts :
    ({ part with meter := { filterShift := 0 } } : State).meter.filterShift = 0 ∧ part.powered = true
      ∧ .sample ∈ part.due := by decide
theorem witness_MeasurementsStayInRange : part.sense.pub.lawful
    ∧ ∃ t, step { part with pending := [.sampleTick 9] } = .next t :=
  ⟨by decide, _, rfl⟩
theorem witness_SampleTickStepsRunCounters :
    let s := { part with
      meter := { part.meter with fullVoltage := 0 }, reserve := { part.reserve with fullRun := 1199, restRun := 7199 }
      sense := { part.sense with dir := .charge, stamp := some 0, period := some 600000, pub := { part.sense.pub with filtered := -1 } } }
    s.powered = true ∧ .sample ∈ s.due ∧ (after (.sampleTick 0) s).reserve.syncDue = true
      ∧ (after (.sampleTick 0) part).reserve.fullRun = 0
      ∧ (after (.sampleTick 0) s).reserve.restRun = 7200 := by decide
theorem witness_FullSyncSetsCapacity :
    part.powered = true ∧ part.reserve.syncDue = false
      ∧ ({ part with reserve := { part.reserve with syncDue := true } } : State).reserve.syncDue = true := by decide
theorem witness_RestTableMapsByStraightLines :
    restLawful factoryRest ∧ 11800 ≤ factoryRest[0].voltage ∧ factoryRest[7].voltage ≤ 12700
      ∧ factoryRest[(0 : Fin 7).castSucc].voltage ≤ 11999 ∧ 11999 < factoryRest[(0 : Fin 7).succ].voltage := by decide
theorem witness_RestReAnchorSetsReserve :
    (rested 12150).powered = true ∧ (rested 12150).reserve.reanchorDue = true ∧ (rested 12150).reserve.q = some 266400000
      ∧ part.reserve.reanchorDue = false ∧ distance 370 (mapRest factoryRest 12150) = 95
      ∧ distance 370 (mapRest factoryRest 12200) = 20 := by decide
theorem witness_ReserveStaysWithinCapacity :
    (rested 0).reserveLaw ∧ restLawful (rested 0).rest ∧ (rested 0).meter.lawful
      ∧ ∃ t, step { rested 0 with pending := [.pulse true] } = .next t := ⟨by decide, by decide, by decide, _, rfl⟩
theorem witness_ReserveCommandsSetAndClear : part.powered = true ∧ part.startup.ready = true := by decide
theorem witness_MeterProfileCommitTakesOrRefuses :
    part.powered = true ∧ part.startup.ready = true ∧ part.setup.level = true
      ∧ ({ part with setup := .released } : State).setup.level = false := by decide
theorem witness_BudgetProfileCommitTakesOrRefuses :
    part.powered = true ∧ part.startup.ready = true ∧ part.setup.level = true
      ∧ ({ part with setup := .released } : State).setup.level = false := by decide
theorem witness_RestTableCommitTakesWholeOrRefuses :
    part.powered = true ∧ part.startup.ready = true ∧ part.setup.level = true
      ∧ (∀ i : Fin 7, factoryRest[i.castSucc].voltage < factoryRest[i.succ].voltage
          ∧ factoryRest[i.castSucc].fraction ≤ factoryRest[i.succ].fraction)
      ∧ ({ part with setup := .released } : State).setup.level = false := by decide
theorem witness_AllowanceStaysWithinItsGreatest :
    part.allowanceLaw ∧ part.budget.lawful ∧ ∃ t, step { lit part with pending := [.evaluation] } = .next t :=
  ⟨by decide, by decide, _, rfl⟩
theorem witness_EvaluationFormsAllowance :
    part.powered = true ∧ .evaluation ∈ part.due
      ∧ (.evaluation ∈ ({ part with startup := ⟨false, 5, none⟩ } : State).due
        ∧ ({ part with startup := ⟨false, 5, none⟩ } : State).startup.ready = false) ∧ part.startup.ready = true
          ∧ part.budget.lawful
      ∧ part.reserve.q = none ∧ winter.budget.lawful ∧ winter.reserve.q = some 266400000 := by decide
theorem witness_WalkActsExactlyOnTheDeficit :
    (winter.powered = true ∧ .evaluation ∈ winter.due ∧ winter.startup.ready = true) ∧ winter.listsInOrder
      ∧ exec .evaluation winter = .next (after .evaluation winter)
      ∧ (winter.isCandidate 5 = true ∧ winter.cutNow 25500 5 = false ∧ winter.reliefBefore 25500 5 = 0)
      ∧ (winter.isCandidate 8 = true ∧ winter.cutNow 25500 8 = true ∧ winter.reliefBefore 25500 8 = 6000)
      ∧ (winter.isCandidate 2 = true ∧ winter.reliefBefore 25500 2 = 24000) ∧ winter.walkFree 25500 :=
  ⟨by decide, in_order _ (by decide), rfl, by decide, by decide, by decide, by decide⟩
theorem witness_EvaluationLeavesEssentialsOn :
    ((one deferredOff).powered = true ∧ .evaluation ∈ (one deferredOff).due ∧ (one deferredOff).startup.ready = true)
      ∧ (one { running with cls := 0 }).recordsLaw ∧ ((one { running with cls := 0 }).load 0).on = true
      ∧ (one deferredOff).recordsLaw ∧ ((one deferredOff).load 0).reason = .deferred .requestOff
      ∧ ((one tripped).recordsLaw ∧ tripped.state ∈ [.vacant, .idle, .tripped, .locked])
      ∧ ((one locked).recordsLaw ∧ locked.state ∈ [.vacant, .idle, .tripped, .locked]) ∧ (part.load 1).state = .vacant :=
  ⟨by decide, by decide, by decide, by decide, by decide, by decide, by decide, by decide⟩
theorem witness_DepletedStageDropsMinOnWaits :
    (one waiting).listsInOrder ∧ (one deferred).listsInOrder ∧ ((one waiting).load 0).reason = .deferred .budget
      ∧ .evaluation ∈ (one waiting).due
      ∧ (after .evaluation (one waiting)).engine.allowance = 0 ∧ ((one deferred).load 0).waitHold = true
      ∧ (after .evaluation (lit (one waiting))).engine.allowance ≠ 0 :=
  ⟨in_order _ (by decide), in_order _ (by decide), by decide, by decide, by decide, by decide⟩
theorem witness_RestoreStartsTheCandidateThatFits :
    (lit (one standby)).listsInOrder ∧ (one standby).listsInOrder ∧ ((one standby).load 0).state = .standby
      ∧ .evaluation ∈ (one standby).due
      ∧ (one standby).engine.standbyList.find? (one standby).mayRestore = some 0
      ∧ ((after .evaluation (lit (one standby))).load 0).state = .starting
      ∧ ((after .evaluation (one standby)).load 0).state = .standby :=
  ⟨in_order _ (by decide), in_order _ (by decide), by decide, by decide, by decide, by decide⟩
/-- A part of A = 100,000 mA and I_f = 103,000 mA with a RUNNING load of 6,000 mA, whose cut leaves P at 97,000 mA, and a load of
1,000 mA in STANDBY, which then fits below A - H = 99,000 mA. -/
def shedding : State :=
  let s := lit (one { running with cls := 6, declaredDraw := 600, requestStamp := some 2, startStamp := some 3 })
  { s with
    loads := s.loads.set 1 standby
    engine := { s.engine with seq := 4, standbyList := [1] }
    sense := { s.sense with pub := { s.sense.pub with filtered := 103000 } } }

theorem witness_EvaluationRefreshesReasons :
    (one standby).listsInOrder ∧ (withForceOff ⟨true, 0⟩ (one standby)).listsInOrder
      ∧ ((after .evaluation (one standby)).load 0).reason = .standby .budget ∧ .evaluation ∈ (one standby).due
      ∧ ((after .evaluation (withForceOff ⟨true, 0⟩ (one standby))).load 0).reason = .standby .forced
      ∧ ((after .evaluation (one { standby with minOff := 1 })).load 0).reason = .standby .minOff
      ∧ ((after .evaluation (one essential)).load 0).reason = .standby .queued
      ∧ ((after .evaluation (lit { one standby with engine := { (one standby).engine with spacing := 4 } })).load 0).reason
          = .standby .heldBack
      ∧ shedding.listsInOrder ∧ (shedding.load 0).on = true ∧ ((after .evaluation shedding).load 0).on = false
      ∧ ((after .evaluation shedding).load 1).reason = .standby .heldBack :=
  ⟨in_order _ (by decide), in_order _ (by decide), by decide, by decide, by decide, by decide, by decide, by decide,
    in_order _ (by decide), by decide, by decide, by decide⟩
theorem witness_BudgetLevelFollowsItsTable :
    part.powered = true ∧ .evaluation ∈ part.due ∧ part.startup.ready = true ∧ Instr.dwellIncrement ≠ .evaluation
      ∧ (after .evaluation part).engine.level = .depleted ∧ (after .evaluation (lit part)).engine.level = .ample
      ∧ (after .evaluation winter).engine.level = .shedding
      ∧ (after .evaluation (lit (one essential))).engine.level = .tight := by decide
theorem witness_EvaluationClosesTheCounters :
    (lit (one standby)).listsInOrder ∧ winter.listsInOrder
      ∧ ((after .evaluation (lit (one standby))).load 0).state = .starting ∧ .evaluation ∈ winter.due
      ∧ ((winter.load 8).on = true ∧ ((after .evaluation winter).load 8).on = false)
      ∧ (∀ n : Channel, (winter.load n).state ≠ .standby) ∧ ∀ n : Channel, ((lit (one standby)).load n).on = false :=
  ⟨in_order _ (by decide), in_order _ (by decide), by decide, by decide, by decide, by decide⟩
theorem witness_SecondTickStepsDwellSettleAndCleanRun :
    part.powered = true ∧ (.dwell ∈ part.due ∧ .settle 11 ∈ part.due ∧ .cleanRun 0 ∈ part.due)
      ∧ (starting.state = .starting ∧ starting.settleTimer ≤ 1)
      ∧ 1 < ({ starting with settleTimer := 2 } : Load).settleTimer ∧ (running.state = .running
        ∧ running.cleanRun = 299) := by
  decide
theorem witness_WaitEndsCutWhenNoWaitIsLeft :
    (one deferred).powered = true ∧ (.holdLimit 0 ∈ (one deferred).due ∧ .minOn 0 ∈ (one deferred).due)
      ∧ (deferred.state = .deferred ∧ deferred.waitHold = true ∧ deferred.holdTimer ≤ 1)
      ∧ (deferred.waitMinOn = false ∧ deferred.reason ≠ .deferred .requestOff) ∧ deferredOff.reason = .deferred .requestOff
      ∧ (waiting.state = .deferred ∧ waiting.waitHold = false ∧ waiting.waitMinOn = true ∧ waiting.minOn ≤ waiting.dwell)
      ∧ 1 < ({ deferred with holdTimer := 2 } : Load).holdTimer ∧ ({ waiting with dwell := 4 } : Load).dwell < waiting.minOn
      ∧ ({ deferred with waitMinOn := true } : Load).waitMinOn = true
      ∧ (one running).recordsLaw ∧ running.state ≠ .deferred ∧ .holdLimit 0 ∈ (one running).due ∧ .minOn 0 ∈ (one running).due := by decide
theorem witness_RetryExpiryLeavesTripped :
    (one tripped).powered = true ∧ .retry 0 ∈ (one tripped).due ∧ (one tripped).listLaw
      ∧ (one tripped).engine.exhausted = false
      ∧ ((spent (one { tripped with cls := 0 })).listLaw
        ∧ (spent (one { tripped with cls := 0 })).engine.exhausted = true) ∧ tripped.state = .tripped
          ∧ tripped.retryTimer = some 1
      ∧ tripped.request = true ∧ ({ tripped with request := false } : Load).request = false ∧ idle.state ≠ .tripped
      ∧ (tripped.cls ≠ 0
        ∧ ((one { tripped with cls := 0 }).load 0).minOff ≤ ((one { tripped with cls := 0 }).load 0).dwell) := by
  decide
theorem witness_EssentialChecksStartEveryEligibleEssential :
    (one essential).listsInOrder ∧ (withForceOff ⟨true, 10⟩ (one essential)).listsInOrder
      ∧ (withForceOff ⟨true, 0⟩ (one essential)).listsInOrder ∧ (lastOne (one essential)).listsInOrder
      ∧ (spent (one essential)).listsInOrder ∧ (one standby).listsInOrder
      ∧ ((one essential).powered = true ∧ .minOff ∈ (one essential).due ∧ (one essential).startup.ready = true)
      ∧ (.minOff ∈ (restarted none).due ∧ (restarted none).startup.ready = false) ∧ (restarted none).listsInOrder
      ∧ ((one essential).load 0).minOff ≤ ((one essential).load 0).dwell ∧ (one essential).forceOff.run ≠ 10 :=
  ⟨in_order _ (by decide), in_order _ (by decide), in_order _ (by decide), in_order _ (by decide), in_order _ (by decide),
    in_order _ (by decide), by decide, by decide, in_order _ (by decide), by decide, by decide⟩

/-- A check while FORCE_OFF is asserted, one in LOADING and one with no stamp left start nothing; one with a stamp left does. -/
theorem test_essential_check_starts_as_allowed :
    ((after .minOffExpiry (withForceOff ⟨true, 0⟩ (one essential))).load 0).state = .standby
      ∧ ((after .minOffExpiry (spent (one essential))).load 0).state = .standby
      ∧ ((after .minOffExpiry (lastOne (one essential))).load 0).startStamp = some 4294967295
      ∧ (after .minOffExpiry (lastOne (one essential))).engine.exhausted = true := by decide
theorem witness_LineTickCountsSamplesAndLevelsFollow :
    part.powered = true ∧ .line ∈ part.due ∧ .line ∈ ({ State.reset with timebase := 10, due := workAt 10 } : State).due
      ∧ State.reset.firstTick = true ∧ (restarted none).debounceNow = 30
        ∧ (restarted (some factoryImage.channels)).debounceNow = 10 ∧ part.firstTick = false
          ∧ ((one starting).load 0).on = true := by decide
theorem witness_HoldReleaseEndsItsWaits :
    (withHold ⟨true, 10⟩ (one deferred)).powered = true ∧ (withHold ⟨true, 10⟩ (one deferred)).holds[0].run = 10
      ∧ (withHold ⟨true, 10⟩ (one deferred)).holds[0].level = true ∧ deferred.waitsOn 0 = true ∧ deferred.waitMinOn = false
      ∧ ({ deferred with waitMinOn := true } : Load).waitsOn 0 = true ∧ part.holds[0].level = false := by decide
theorem witness_ForceOffAssertionCutsEveryLoad :
    (withForceOff ⟨false, 10⟩ (one running)).powered = true ∧ (withForceOff ⟨false, 10⟩ (one running)).listLaw
      ∧ running.on = true ∧ running.reason ≠ .deferred .requestOff ∧ (withForceOff ⟨false, 10⟩ (one deferredOff)).listLaw
      ∧ deferredOff.reason = .deferred .requestOff ∧ part.forceOff.run ≠ 10 := by decide
theorem witness_TripTripsOrLocks :
    part.powered = true ∧ ({ running with diagRun := 3 } : Load).diagRun = 3 ∧ running.on = true
      ∧ running.retriesUsed + 1 ≤ running.retryLimit
      ∧ running.retryLimit < ({ running with retriesUsed := 3 } : Load).retriesUsed + 1 ∧ running.diagRun ≠ 3 := by decide
theorem witness_SwitchChangeActsByMode :
    (withDue (one { idle with switchMode := .toggle })).listsInOrder
      ∧ (withDue (spent (one { idle with switchMode := .follow }))).listsInOrder
      ∧ (withDue (one { running with switchMode := .toggle })).listsInOrder ∧ part.switches[0].due = false
      ∧ (withDue (one idle)).switches[0].due = true ∧ (withDue (one idle)).switches[0].pressed = false
      ∧ (withDue (one idle)).engine.exhausted = false
      ∧ (withDue (lastOne (one { idle with switchMode := .toggle, cls := 0 }))).listsInOrder
      ∧ (withDue (lastOne (one idle))).engine.exhausted = false :=
  ⟨in_order _ (by decide), in_order _ (by decide), in_order _ (by decide), by decide, by decide, by decide, by decide,
    in_order _ (by decide), by decide⟩
theorem witness_CommitAtVacantRecordEnrolsOrRefuses :
    part.powered = true ∧ part.startup.ready = true ∧ part.recordsLaw ∧ (part.load 5).state = .vacant
      ∧ part.setup.level = true ∧ heater[1] = 0x01 ∧ (rec28 [])[1] ≠ 0x01 := by decide
theorem witness_RetirementReturnsDefaults :
    (one running).powered = true ∧ (one running).startup.ready = true ∧ (one running).setup.level = true
      ∧ ((one running).load 0).state ≠ .vacant ∧ (rec28 [])[1] = 0x00
      ∧ ((one running).port.mask.all fun m => m.getLsbD 1) = true := by decide
theorem witness_LoadCommitTakesFieldsByWriteClass :
    ((one running).powered = true ∧ (one running).startup.ready = true ∧ ((one running).load 0).state ≠ .vacant)
      ∧ (heater[1] ≠ 0x00 ∧ (one locked).setup.level = true
        ∧ ({ one running with setup := .released } : State).setup.level = false)
      ∧ (one running).recordsLaw ∧ (one running).engine.seq + 3 < 4294967295
      ∧ (spent (one locked)).recordsLaw ∧ ((spent (one locked)).engine.exhausted = true ∧ locked.request = false)
      ∧ ((withMask 0x90000 (one tripped)).setup.level = true ∧ (withMask 0x90000 (one tripped)).port.mask = some 0x90000
        ∧ (0x90000 : Wide).getLsbD 1 = false ∧ (0x90000 : Wide).getLsbD 2 = false ∧ (0x90000 : Wide).getLsbD 3 = false
        ∧ (0x90000 : Wide).getLsbD 9 = false ∧ (0x90000 : Wide).getLsbD 19 = true ∧ tripped.retryTimer = some 1) :=
  ⟨by decide, by decide, by decide, by decide, by decide, by decide, by decide⟩
theorem witness_ClassCommitIsRefusedOrTaken :
    (withMask 4 (one standby)).listsInOrder ∧ (withMask 4 (one deferred)).listsInOrder
      ∧ ((withMask 4 (spent (one essential))).listsInOrder ∧ (spent (one essential)).engine.exhausted = true)
      ∧ ((withMask 4 (one standby)).powered = true ∧ (withMask 4 (one standby)).startup.ready = true
        ∧ (withMask 4 (one standby)).engine.exhausted = false ∧ (withMask 4 (one standby)).port.mask = some 4
        ∧ ((withMask 4 (one standby)).load 0).state ≠ .vacant)
      ∧ (min (rec28 [])[2].toNat 7 = 0 ∧ ((one standby).load 0).minOff ≤ ((one standby).load 0).dwell)
      ∧ min heater[2].toNat 7 = 7 :=
  ⟨in_order _ (by decide), in_order _ (by decide), ⟨in_order _ (by decide), by decide⟩, by decide, by decide, by decide⟩
theorem witness_RequestCommitArrives :
    (withMask 8 (one idle)).listsInOrder ∧ (withMask 8 (one running)).listsInOrder ∧ (withMask 8 (one locked)).listsInOrder
      ∧ ((withMask 8 (spent (one idle))).listsInOrder ∧ (spent (one idle)).engine.exhausted = true)
      ∧ ((withMask 8 (one idle)).powered = true ∧ (withMask 8 (one idle)).port.mask = some 8 ∧ idle.request = false
        ∧ running.request = true ∧ (withMask 8 (one idle)).engine.exhausted = false)
      ∧ (rec28 [0, 0, 0, 1])[3] = 0x01 ∧ (rec28 [])[3] = 0x00 :=
  ⟨in_order _ (by decide), in_order _ (by decide), in_order _ (by decide), ⟨in_order _ (by decide), by decide⟩, by decide, by decide,
    by decide⟩
theorem witness_RecordsReadAndWrittenBackChangeNothing :
    (one running).listsInOrder
      ∧ ((one running).powered = true ∧ (one running).startup.ready = true ∧ (one running).port.mask = none
        ∧ (one running).setup.level = true)
      ∧ (one running).retriesLaw ∧ (one running).recordsInRange ∧ (one running).meter.lawful ∧ (one running).budget.lawful
      ∧ restLawful (one running).rest ∧ (one running).allowanceLaw ∧ (one running).reserveLaw
      ∧ (rec28 ((one running).recordBytes .load 0)).toList = (one running).recordBytes .load 0
      ∧ (rec32 (part.recordBytes .profile 2)).toList = part.recordBytes .profile 2 :=
  ⟨in_order _ (by decide), by decide, by decide, by decide, by decide, by decide, by decide, by decide, by decide,
    by decide +kernel, by decide +kernel⟩
theorem witness_PortWritesSetPointerMarksAndMask :
    part.powered = true ∧ part.startup.ready = true ∧ part.port.address = 0x5C
      ∧ ((0x0B#8).toNat < 12 ∧ 12 ≤ (0x0C#8).toNat) ∧ ((0x02#8).toNat < 3 ∧ 3 ≤ (0x03#8).toNat)
      ∧ ((0x00#8).toNat < 1 ∧ 1 ≤ (0x01#8).toNat) ∧ ((0x06#8).toNat < 7 ∧ 7 ≤ (0x07#8).toNat)
      ∧ ((0x01#8).toNat < 2 ∧ 2 ≤ (0x02#8).toNat) ∧ 0x5D#7 ≠ part.port.address
      ∧ ((0x00#8).toNat = 0 ∧ (0x01#8).toNat = 1 ∧ (0x05#8).toNat = 5 ∧ 5 < (0x06#8).toNat)
      ∧ (Instr.partialWrite .profile 2 (List.replicate 31 0)).wellFormed = true
      ∧ ((part.raise .trip).alertLow = true ∧ (part.raise .anchored).alertLow = false) := by decide
/-- A STATUS record read up to its byte 39, with REFUSED then marked. -/
def partway : State := (after (.readTransaction 0x5C 39) { part with port := { part.port with space := .status } }).refuse

theorem witness_ReadsSendTheSnapshot :
    (part.powered = true ∧ part.startup.ready = true ∧ part.pointerLaw ∧ part.listLaw)
      ∧ (part.port.offset + 28 ≤ part.port.space.bytes ∧ part.port.offset = 0 ∧ 0x5D#7 ≠ part.port.address)
      ∧ (partway.powered = true ∧ partway.startup.ready = true ∧ partway.pointerLaw ∧ partway.listLaw)
      ∧ (partway.port.offset = 39 ∧ partway.port.offset + 1 ≤ partway.port.space.bytes ∧ partway.port.space = .status) := by
  decide +kernel
theorem witness_ChannelCommandsActOrReport :
    part.powered = true ∧ part.startup.ready = true ∧ 11 < (argumentWord (arg 12)).toNat ∧ (argumentWord (arg 0)).toNat = 0
      ∧ (one tripped).listLaw ∧ (spent (one tripped)).listLaw ∧ ((one tripped).load 0).state = .tripped
        ∧ ((one locked).load 0).state = .locked
      ∧ (part.load 0).state = .vacant := by decide
theorem witness_SaveProfileFormsAGoodImage :
    part.powered = true ∧ part.startup.ready = true ∧ part.store.saving = none ∧ (saving part).store.saving ≠ none
      ∧ part.meter.lawful ∧ part.budget.lawful ∧ restLawful part.rest ∧ part.recordsInRange :=
  ⟨by decide, by decide, by decide, by decide +kernel, by decide, by decide, by decide, by decide⟩
theorem witness_RestartBeginsAtOnceOrAtCompletion :
    part.powered = true ∧ part.startup.ready = true ∧ part.store.saving = none
      ∧ (saving part).store.saving = some factoryImage
      ∧ part.store.restartPending = false
      ∧ ({ part with store := { part.store with restartPending := true } } : State).store.restartPending = true := by
        decide +kernel
theorem witness_LossOfPowerKeepsTheStoreAlone :
    part.powered = true ∧ (saving part).store.saving = some factoryImage
      ∧ SaveCut.beforeChecksum erasedStore ≠ .duringReadBack
      ∧ (after (.lossOfPower .duringReadBack) part).powered = false ∧ part.store.saving = none := by decide +kernel
/-- A part due for stage 2 whose store is erased. -/
def erased : State := { State.reset with startup := ⟨false, 20, none⟩ }

/-- The erased store is bad, the factory image is good, and with its checksum one too high it is bad by that alone (R194). -/
theorem witness_StageTwoTakesProfilesFromTheStore :
    (erased.powered = true ∧ erased.startup.ready = false ∧ 20 ≤ erased.startup.ticks ∧ erased.startup.kept = none)
      ∧ ¬erased.store.image.good ∧ factoryImage.good
      ∧ ¬({ factoryImage with checksum := factoryImage.checksum + 1 } : StoreWords).good
      ∧ ({ erased with reserve := { erased.reserve with q := some 360000001 } } : State).reserve.q
        = some (erased.meter.capacity * 3600000 + 1) :=
  ⟨by decide, fun h => absurd h.1 (by decide +kernel),
    ⟨by decide +kernel, by decide +kernel, by decide +kernel, by decide +kernel, by decide +kernel⟩,
    fun h => absurd h.1 (by decide +kernel), by decide⟩
/-- Six enrolled channels: an essential to be started, one that waits for its min-off, one of class 3, one in FOLLOW with its
switch pressed, one in FOLLOW with its switch released, and one that is not asked. -/
def stored : Vector ChannelWords 12 :=
  let w : ChannelWords := ⟨0x01, 0, 100, 0xFFFF, 2, 0, 0, 0, 0, 600, 3, 5, 0x01⟩
  (((((factoryImage.channels.set 0 w).set 1 { w with minOff := 5 }).set 2 { w with cls := 3 }).set 3
    { w with switchMode := 0x02, restartPolicy := 0x00 }).set 4 { w with switchMode := 0x02 }).set 5 { w with restartPolicy := 0x00 }

/-- A part due for stage 3 with those channels kept. -/
def loading : State :=
  { State.reset with startup := ⟨false, 25, some stored⟩, switches := part.switches.set 3 ⟨true, 0, false⟩ }

theorem witness_StageThreeRebuildsTableAndLists :
    (loading.powered = true ∧ loading.startup.ready = false ∧ 25 ≤ loading.startup.ticks ∧ loading.startup.kept = some stored)
      ∧ (∀ n : Channel, stored[n].good)
      ∧ (stored[0].cls = 0 ∧ stored[0].minOff = 0 ∧ loading.forceOff.level = false ∧ stored[0].restartPolicy = 0x01)
      ∧ (stored[3].switchMode = 0x02 ∧ loading.switches[3].pressed = true ∧ loading.switches[4].pressed = false)
      ∧ stored[11].enrolled = 0x00 := by decide +kernel
theorem test_stage_3_starts_and_queues :
    let t := after .startupStage3 loading
    t.engine.runList = [0, 3] ∧ t.engine.standbyList = [1, 2] ∧ (t.load 4).state = .idle ∧ (t.load 5).state = .idle := by
  decide +kernel
/-- A part with a RUNNING record at channel 0 whose window waits for its closing reading, and a RUNNING record at channel 1 that
is about to trip. -/
def learning : State :=
  let s := one { running with window := .closing ⟨0, true, .discharge, #v[true, true, false, false, false, false, false, false,
    false, false, false, false]⟩ }
  { s with
    loads := s.loads.set 1 { running with requestStamp := some 2, startStamp := some 3, diagRun := 3 }
    engine := { s.engine with seq := 4, runList := [0, 1] } }

theorem witness_ClosingReadingFoldsValidSample :
    let o : Opening := ⟨0, true, .discharge, Vector.replicate 12 false⟩
    let s := { one { running with window := .closing o } with
      sense := { part.sense with stamp := some 0, period := some 3600000 } }
    s.powered = true ∧ .sample ∈ s.due ∧ (s.load 0).window = .closing o
      ∧ (after (.sampleTick 0) s).sense.pub.valid = true ∧ (after (.sampleTick 0) s).sense.pub.current = 1
      ∧ (s.load 0).learnedDraw = none ∧ (s.load 1).window = .closed := by decide
theorem witness_ListsStampsAndRecordsStayInOrder :
    (one running).listsInOrder ∧ ∃ t, step { one running with pending := [.evaluation] } = .next t :=
  ⟨in_order _ (by decide), _, rfl⟩
theorem witness_RetriesAndFieldsStayInRange :
    (one locked).retriesLaw ∧ (one locked).recordsInRange
      ∧ ∃ t, step { one locked with pending := [.evaluation] } = .next t :=
  ⟨by decide, by decide, _, rfl⟩
theorem witness_OutputsStayOffWhereTheyMust :
    State.reset.loadingLaw ∧ (withForceOff ⟨true, 0⟩ (one standby)).forceOffLaw ∧ (one starting).oneStarting
      ∧ (one starting).loadingLaw ∧ (one starting).forceOffLaw
        ∧ (∃ t, step { one starting with pending := [.evaluation] } = .next t)
      ∧ learning.windowsLaw ∧ learning.listsInOrder ∧ learning.loadingLaw ∧ (learning.load 0).window ≠ .closed
      ∧ (learning.outputs[1] ≠ (after (.trip 1) learning).outputs[1] ∧ ((after (.trip 1) learning).load 0).window = .closed)
      ∧ ((learning.load 0).state = .running ∧ ((after .dwellIncrement learning).load 0).state = .running
        ∧ ((after .dwellIncrement learning).load 0).startStamp = (learning.load 0).startStamp
        ∧ ∀ m : Channel, (after .dwellIncrement learning).outputs[m] = learning.outputs[m])
      ∧ ∃ t, step { learning with pending := [.trip 1] } = .next t :=
  ⟨by decide, by decide, by decide, by decide, by decide, ⟨_, rfl⟩, by decide,
    in_order _ (by decide), by decide, by decide, by decide, by decide, _, rfl⟩
theorem witness_PointerAndCountersStayInRange :
    part.pointerLaw ∧ part.listLaw ∧ part.countersInRange ∧ part.tickLaw
      ∧ ∃ t, step { part with pending := [.statusSnapshot] } = .next t :=
  ⟨by decide, by decide, by decide, by decide, _, rfl⟩
theorem witness_LoadCommitEventsActInOrder :
    (passing.powered = true ∧ passing.startup.ready = true ∧ (passing.load 0).state ≠ .vacant) ∧ passing.listsInOrder
      ∧ (passing.port.mask = some 0x208 ∧ passing.setup.level = true)
      ∧ (withMask 0x400 (one deferred)).listsInOrder ∧ (withMask 0x400 (one { deferred with waitMinOn := true })).listsInOrder
      ∧ ((withMask 0x400 (one deferred)).held none = false ∧ deferred.holdLine ≠ none ∧ (rec28 [])[10] = holdLineCode none)
      ∧ (withMask 0x400 (one running)).listsInOrder
      ∧ (withMask 0x200 (one idle)).listsInOrder ∧ (withMask 0x200 (spent (one idle))).listsInOrder
      ∧ (withMask 0x200 (one running)).listsInOrder ∧ ((one essential).listsInOrder
        ∧ (one essential).port.mask = none) ∧ (idle.switchMode ≠ .follow ∧ running.request = true)
      ∧ ((rec28 [0, 1, 0, 0, 0, 0, 0, 0, 0, 2])[9] = 0x02 ∧ part.switches[0].pressed = false
        ∧ passing.switches[0].pressed = true) :=
  ⟨by decide, in_order _ (by decide), by decide, in_order _ (by decide), in_order _ (by decide), by decide,
    in_order _ (by decide), in_order _ (by decide), in_order _ (by decide), in_order _ (by decide),
    ⟨in_order _ (by decide), by decide⟩, by decide, by decide⟩
end Sys2Proof.Tests
end

section
/-! PROOFS. The reserve (03_reserve.md): the rest table's straight lines (R53) and the pulses counted into Q (R48, R49). -/

namespace Sys2Proof.Machine

/-! ## The straight line of a segment (R53) -/

theorem fraction_le_interpolate (a b : Point) (v : Nat) : a.fraction ≤ interpolate a b v :=
  Nat.le_add_right ..

/-- The line goes at most the whole way: the voltage is at most the segment's width above its first point. -/
theorem interpolate_le_fraction {a b : Point} {v : Nat} (hf : a.fraction ≤ b.fraction) (hv : v ≤ b.voltage) :
    interpolate a b v ≤ b.fraction := by
  have hwidth : v - a.voltage ≤ b.voltage - a.voltage := Nat.sub_le_sub_right hv _
  have hrise : (v - a.voltage) * (b.fraction - a.fraction) / (b.voltage - a.voltage) ≤ b.fraction - a.fraction :=
    Nat.div_le_of_le_mul (Nat.mul_le_mul_right _ hwidth)
  unfold interpolate
  omega

theorem interpolate_at_first (a b : Point) : interpolate a b a.voltage = a.fraction := by simp [interpolate]

/-! ## The walk along the points (R53) -/

@[simp] theorem mapAbove_nil (a : Point) (v : Nat) : mapAbove a v [] = a.fraction := rfl

theorem mapAbove_cons_of_lt {a b : Point} {v : Nat} {l : List Point} (h : v < b.voltage) :
    mapAbove a v (b :: l) = interpolate a b v := if_pos h

theorem mapAbove_cons_of_le {a b : Point} {v : Nat} {l : List Point} (h : b.voltage ≤ v) :
    mapAbove a v (b :: l) = mapAbove b v l := if_neg (Nat.not_lt.mpr h)

/-- The walk stops at the segment that holds the voltage, when it has passed every point before. -/
theorem mapAbove_eq_interpolate {n v : Nat} (p : Fin (n + 1) → Point) (i : Fin n)
    (hpassed : ∀ j ≤ i.castSucc, (p j).voltage ≤ v) (hlt : v < (p i.succ).voltage) :
    mapAbove (p 0) v (List.ofFn fun j => p j.succ) = interpolate (p i.castSucc) (p i.succ) v := by
  induction n with
  | zero => exact i.elim0
  | succ n ih =>
    rw [List.ofFn_succ]
    cases i using Fin.cases with
    | zero => exact mapAbove_cons_of_lt hlt
    | succ k =>
      have hfirst : Fin.succ 0 ≤ k.castSucc.succ := Fin.succ_le_succ_iff.mpr (Fin.zero_le _)
      rw [mapAbove_cons_of_le (hpassed _ hfirst)]
      exact ih (fun j => p j.succ) k (fun j hj => hpassed _ (Fin.succ_le_succ_iff.mpr hj)) hlt

/-- The walk that passes every point ends at the last one. -/
theorem mapAbove_eq_last {n v : Nat} (p : Fin (n + 1) → Point) (hpassed : ∀ j : Fin n, (p j.succ).voltage ≤ v) :
    mapAbove (p 0) v (List.ofFn fun j => p j.succ) = (p (Fin.last n)).fraction := by
  induction n with
  | zero => simp
  | succ n ih =>
    rw [List.ofFn_succ, mapAbove_cons_of_le (hpassed 0)]
    exact ih (fun j => p j.succ) fun j => hpassed j.succ

/-! ## The rest table (R53, R60) -/

theorem mapRest_of_le {t : Vector Point 8} {v : Nat} (h : v ≤ t[0].voltage) : mapRest t v = t[0].fraction := if_pos h

theorem mapRest_of_gt {t : Vector Point 8} {v : Nat} (h : t[0].voltage < v) :
    mapRest t v = mapAbove t[0] v (List.ofFn fun j : Fin 7 => t[j.succ]) := by
  simp [mapRest, Nat.not_le.mpr h, List.ofFn_succ]

theorem restLawful.voltage_lt {t : Vector Point 8} (ht : restLawful t) {i j : Fin 8} (h : i < j) :
    t[i].voltage < t[j].voltage := (ht.2 i j h).1

theorem restLawful.voltage_le {t : Vector Point 8} (ht : restLawful t) {i j : Fin 8} (h : i ≤ j) :
    t[i].voltage ≤ t[j].voltage := by
  obtain rfl | hlt := h.eq_or_lt
  · exact le_rfl
  · exact (ht.voltage_lt hlt).le

theorem restLawful.fraction_le_succ {t : Vector Point 8} (ht : restLawful t) (i : Fin 7) :
    t[i.castSucc].fraction ≤ t[i.succ].fraction := (ht.2 _ _ i.castSucc_lt_succ).2

/-- At and above the last voltage a lawful table gives the last fraction. -/
theorem mapRest_of_last_le {t : Vector Point 8} {v : Nat} (ht : restLawful t) (h : t[7].voltage ≤ v) :
    mapRest t v = t[7].fraction := by
  have hlt : t[0].voltage < v := (ht.voltage_lt (i := 0) (j := 7) (by decide)).trans_le h
  rw [mapRest_of_gt hlt]
  exact mapAbove_eq_last (fun j : Fin 8 => t[j]) fun j => (ht.voltage_le (Fin.le_last j.succ)).trans h

/-- Within a segment a lawful table gives the segment's line; at V_0, where the table's first clause answers, the line starts
at f_0. -/
theorem mapRest_of_segment {t : Vector Point 8} {v : Nat} (ht : restLawful t) (i : Fin 7)
    (hle : t[i.castSucc].voltage ≤ v) (hlt : v < t[i.succ].voltage) :
    mapRest t v = interpolate t[i.castSucc] t[i.succ] v := by
  have hpassed : ∀ j ≤ i.castSucc, t[j].voltage ≤ v := fun j hj => (ht.voltage_le hj).trans hle
  have hwalk : mapAbove t[0] v (List.ofFn fun j : Fin 7 => t[j.succ]) = interpolate t[i.castSucc] t[i.succ] v :=
    mapAbove_eq_interpolate (fun j : Fin 8 => t[j]) i hpassed hlt
  have hzero : t[0].voltage ≤ v := hpassed 0 (Fin.zero_le _)
  obtain hv | hv := hzero.eq_or_lt
  · have hstart : mapAbove t[0] v (List.ofFn fun j : Fin 7 => t[j.succ]) = interpolate t[0] t[1] v := by
      rw [List.ofFn_succ]
      exact mapAbove_cons_of_lt (hv ▸ ht.voltage_lt (i := 0) (j := 1) (by decide))
    rw [mapRest_of_le hv.ge, ← hwalk, hstart, ← hv, interpolate_at_first]
  · rw [mapRest_of_gt hv, hwalk]

/-- Settles O16: the two ends of the table, and the segment that the walk along the points stops at. -/
theorem restTableMapsByStraightLines : Obligations.RestTableMapsByStraightLines := by
  intro t v ht
  refine ⟨mapRest_of_le, mapRest_of_last_le ht, fun i hle hlt => ?_⟩
  rw [mapRest_of_segment ht i hle hlt]
  exact ⟨rfl, fraction_le_interpolate .., interpolate_le_fraction (ht.fraction_le_succ i) hlt.le⟩

/-! ## Pulses (R30, R48, R49) -/

/-- A pulse is taken where the capture tick marked an edge (log 6). -/
theorem exec_pulse_of_edge {s : State} (d : Bool) (hp : s.powered = true) (he : s.sense.edge = true) :
    exec (.pulse d) s = .next (s.takePulse d) := by
  show whenPowered s _ = _
  simp [whenPowered, hp, he]

@[simp] theorem State.takePulse_reserve (s : State) (d : Bool) :
    (s.takePulse d).reserve = s.reserve.takePulse s.meter (directionOf d) := rfl

/-- The difference cut off at 0 is R48's case distinction. -/
theorem Reserve.dischargePulse_of_some {e : Reserve} {q : Nat} (m : Meter) (hq : e.q = some q) :
    e.dischargePulse m = { e with q := some (if q < m.pulseWeight then 0 else q - m.pulseWeight) } := by
  have hcut : q - m.pulseWeight = if q < m.pulseWeight then 0 else q - m.pulseWeight := by
    split
    next h => exact Nat.sub_eq_zero_of_le h.le
    next => rfl
  rw [Reserve.dischargePulse, hq, ← hcut, Option.map_some]

/-- Below the capacity a charge pulse adds the whole mAs of t and keeps the rest of the division. -/
theorem Reserve.chargePulse_of_lt {e : Reserve} {m : Meter} {q : Nat} (hq : e.q = some q)
    (h : q + (m.pulseWeight * m.efficiency + e.remainder) / 1000 < m.capacityMas) :
    e.chargePulse m = { e with
      q := some (q + (m.pulseWeight * m.efficiency + e.remainder) / 1000)
      remainder := (m.pulseWeight * m.efficiency + e.remainder) % 1000 } := by
  simp [Reserve.chargePulse, hq, h]

/-- A charge pulse that reaches the capacity stops there with remainder 0. -/
theorem Reserve.chargePulse_of_ge {e : Reserve} {m : Meter} {q : Nat} (hq : e.q = some q)
    (h : m.capacityMas ≤ q + (m.pulseWeight * m.efficiency + e.remainder) / 1000) :
    e.chargePulse m = { e with q := some m.capacityMas, remainder := 0 } := by
  simp [Reserve.chargePulse, hq, Nat.not_lt.mpr h]

/-- Settles O9: a pulse of either direction is taken, and acts on the anchored reserve as R48 and R49 state. -/
theorem pulsesCountIntoReserve : Obligations.PulsesCountIntoReserve := by
  intro s q hp he hq
  refine ⟨⟨_, exec_pulse_of_edge true hp he, ?discharge⟩, _, exec_pulse_of_edge false hp he, ?below, ?full⟩
  case discharge => exact Reserve.dischargePulse_of_some s.meter hq
  case below => exact Reserve.chargePulse_of_lt hq
  case full => exact Reserve.chargePulse_of_ge hq

end Sys2Proof.Machine
end

section
/-! PROOFS. The budget level (07_budget_evaluation.md): what the shared operations and every other command leave of it, and
what an evaluation sets it to (R125, R126). -/

namespace Sys2Proof.Machine

variable (s : State)

/-! ## A fold whose steps keep a value -/

theorem foldl_keeps {α β γ : Type} (view : α → γ) {f : α → β → α} (h : ∀ a b, view (f a b) = view a) (l : List β) (a : α) :
    view (l.foldl f a) = view a :=
  (List.foldl_hom view (g₂ := fun v _ => v) fun a b => (h a b).symm).symm.trans (List.foldl_fixed l)

/-! ## The shared operations keep the level -/

@[simp] theorem State.joinStandby_level (n : Channel) : (s.joinStandby n).engine.level = s.engine.level := rfl
@[simp] theorem State.leaveStandby_level (n : Channel) : (s.leaveStandby n).engine.level = s.engine.level := rfl
@[simp] theorem State.joinRun_level (n : Channel) : (s.joinRun n).engine.level = s.engine.level := rfl
@[simp] theorem State.leaveRun_level (n : Channel) : (s.leaveRun n).engine.level = s.engine.level := rfl
@[simp] theorem State.enterStandby_level (n : Channel) : (s.enterStandby n).engine.level = s.engine.level := rfl
@[simp] theorem State.switchOff_level (n : Channel) : (s.switchOff n).engine.level = s.engine.level := rfl
@[simp] theorem State.retire_level (n : Channel) : (s.retire n).engine.level = s.engine.level := rfl

@[simp] theorem State.refuseIf_engine (b : Bool) : (s.refuseIf b).engine = s.engine := by
  cases b <;> rfl

@[simp] theorem State.start_level (n : Channel) : (s.start n).engine.level = s.engine.level := by
  by_cases h : (s.load n).state = .standby ∧ s.engine.exhausted = false
  · obtain ⟨hstandby, hstamp⟩ := h
    obtain ⟨-, -, -, -, -, hlevel⟩ := s.start_engine hstandby hstamp
    exact hlevel
  · rw [s.start_refused h]

@[simp] theorem State.essentialCheck_level (n : Channel) : (s.essentialCheck n).engine.level = s.engine.level := by
  obtain h | ⟨h, -⟩ := s.essentialCheck_cases n <;> simp [h]

@[simp] theorem State.essentialSweep_level : s.essentialSweep.engine.level = s.engine.level :=
  foldl_keeps (fun t : State => t.engine.level) (fun t n => t.essentialCheck_level n) _ s

@[simp] theorem State.budgetCut_level (n : Channel) : (s.budgetCut n).engine.level = s.engine.level := by
  unfold State.budgetCut; split <;> rfl

@[simp] theorem State.cutToIdle_level (n : Channel) : (s.cutToIdle n).engine.level = s.engine.level := by
  unfold State.cutToIdle; split <;> rfl

@[simp] theorem State.forcedCut_level (n : Channel) : (s.forcedCut n).engine.level = s.engine.level := by
  unfold State.forcedCut; split <;> rfl

@[simp] theorem State.deferredCut_level (n : Channel) : (s.deferredCut n).engine.level = s.engine.level := by
  obtain ⟨h, -⟩ | ⟨h, -⟩ := s.deferredCut_cases n <;> simp [h]

@[simp] theorem State.cutIfNoWait_level (n : Channel) : (s.cutIfNoWait n).engine.level = s.engine.level := by
  simp only [State.cutIfNoWait]; split <;> simp

@[simp] theorem State.endHoldWait_level (n : Channel) : (s.endHoldWait n).engine.level = s.engine.level := by
  simp [State.endHoldWait]

@[simp] theorem State.endMinOnWait_level (n : Channel) : (s.endMinOnWait n).engine.level = s.engine.level := by
  simp [State.endMinOnWait]

/-! ## Requests and commits keep the level -/

@[simp] theorem State.takeRequestStamp_level (n : Channel) : (s.takeRequestStamp n).engine.level = s.engine.level := by
  simp [State.takeRequestStamp]

@[simp] theorem State.arriveOn_level (n : Channel) : (s.arriveOn n).engine.level = s.engine.level := by
  unfold State.arriveOn
  split
  · simp
  · split <;> simp

@[simp] theorem State.offWhileOn_level (n : Channel) : (s.offWhileOn n).engine.level = s.engine.level := by
  unfold State.offWhileOn; split <;> simp

@[simp] theorem State.arriveOff_level (n : Channel) : (s.arriveOff n).engine.level = s.engine.level := by
  simp only [State.arriveOff]; split <;> simp

@[simp] theorem State.setRequest_level (n : Channel) (on : Bool) :
    (s.setRequest n on).engine.level = s.engine.level := by
  unfold State.setRequest
  split
  · rfl
  · split <;> simp

@[simp] theorem State.commitVacant_engine (n : Channel) (mask : Option Wide) (w : LoadWords) :
    (s.commitVacant n mask w).engine = s.engine := by
  unfold State.commitVacant; split <;> simp

@[simp] theorem State.changeClass_level (n : Channel) (new : Nat) :
    (s.changeClass n new).engine.level = s.engine.level := by
  simp only [State.changeClass]
  split
  · simp
  · split <;> simp
  all_goals simp

@[simp] theorem State.moveHold_level (n : Channel) (before : Option HoldLine) :
    (s.moveHold n before).engine.level = s.engine.level := by
  simp only [State.moveHold]; split <;> simp

@[simp] theorem State.followEntered_level (n : Channel) (before : SwitchMode) :
    (s.followEntered n before).engine.level = s.engine.level := by
  unfold State.followEntered; split <;> simp

@[simp] theorem State.commitClass_level (n : Channel) (mask : Option Wide) (w : LoadWords) (refused : Bool) :
    (s.commitClass n mask w refused).engine.level = s.engine.level := by
  unfold State.commitClass
  split
  · split <;> simp
  · rfl

@[simp] theorem State.commitRequest_level (n : Channel) (mask : Option Wide) (w : LoadWords) :
    (s.commitRequest n mask w).engine.level = s.engine.level := by
  unfold State.commitRequest; split <;> simp

@[simp] theorem State.commitEnrolled_level (n : Channel) (mask : Option Wide) (w : LoadWords) :
    (s.commitEnrolled n mask w).engine.level = s.engine.level := by
  simp only [State.commitEnrolled, State.modify_engine, State.followEntered_level, State.commitRequest_level,
    State.commitClass_level, State.moveHold_level]
  split <;> simp

@[simp] theorem State.commitHeld_level (n : Channel) (mask : Option Wide) (w : LoadWords) :
    (s.commitHeld n mask w).engine.level = s.engine.level := by
  unfold State.commitHeld; split <;> simp

@[simp] theorem State.commitLoad_level (n : Channel) (mask : Option Wide) (w : LoadWords) :
    (s.commitLoad n mask w).engine.level = s.engine.level := by
  simp only [State.commitLoad, State.sweepWindows_engine]; split <;> simp

@[simp] theorem State.takeMeter_engine (m : Meter) : (s.takeMeter m).engine = s.engine := rfl
@[simp] theorem State.takeBudget_level (b : Budget) : (s.takeBudget b).engine.level = s.engine.level := rfl

@[simp] theorem State.commitMeter_engine (mask : Option Wide) (w : MeterWords) :
    (s.commitMeter mask w).engine = s.engine := by
  simp only [State.commitMeter]; split <;> simp

@[simp] theorem State.commitBudget_level (mask : Option Wide) (w : BudgetWords) :
    (s.commitBudget mask w).engine.level = s.engine.level := by
  simp only [State.commitBudget]; split <;> simp

@[simp] theorem State.commitRest_engine (mask : Option Wide) (w : Vector PointWords 8) :
    (s.commitRest mask w).engine = s.engine := by
  simp only [State.commitRest]
  split
  · split <;> rfl
  · simp

/-! ## Start-up, the port and the events keep the level -/

@[simp] theorem State.stage2_level : s.stage2.engine.level = s.engine.level := by
  simp only [State.stage2, State.takeBudget_level, State.takeMeter_engine]; split <;> rfl

@[simp] theorem State.rebuildEntry_level (n : Channel) : (s.rebuildEntry n).engine.level = s.engine.level := by
  unfold State.rebuildEntry; split <;> simp

@[simp] theorem State.rebuildLists_level : s.rebuildLists.engine.level = s.engine.level := by
  rw [State.rebuildLists, State.essentialSweep_level]
  exact foldl_keeps (fun t : State => t.engine.level) (fun t n => t.rebuildEntry_level n) channels _

@[simp] theorem State.stage3_level (kept : Vector ChannelWords 12) : (s.stage3 kept).engine.level = s.engine.level := by
  simp [State.stage3]

@[simp] theorem State.takeSnapshot_engine : s.takeSnapshot.engine = s.engine := by
  unfold State.takeSnapshot; split <;> rfl

@[simp] theorem State.readByte_engine : s.readByte.engine = s.engine := s.takeSnapshot_engine

@[simp] theorem State.readBytes_engine (count : Nat) : (s.readBytes count).engine = s.engine := by
  induction count generalizing s with
  | zero => rfl
  | succ k ih => rw [State.readBytes, ih, s.readByte_engine]

theorem State.commitAt_level (space : Space) (index : Nat) {effect : State → State}
    (h : ∀ u, (effect u).engine.level = u.engine.level) :
    (s.commitAt space index effect).engine.level = s.engine.level := h _

theorem State.maskedCommit_level (space : Space) (index : Nat) {effect : Option Wide → State → State}
    (h : ∀ mask u, (effect mask u).engine.level = u.engine.level) :
    (s.maskedCommit space index effect).engine.level = s.engine.level := h _ _

theorem State.command_level (i : Nat) (channel : Byte) {effect : State → State × CommandResult}
    (h : ∀ u, (effect u).1.engine.level = u.engine.level) :
    (s.command i channel effect).engine.level = s.engine.level := h _

@[simp] theorem State.holdLimitTick_level (n : Channel) : (s.holdLimitTick n).engine.level = s.engine.level := by
  simp only [State.holdLimitTick]
  split
  · split <;> simp
  · rfl

@[simp] theorem State.minOnCheck_level (n : Channel) : (s.minOnCheck n).engine.level = s.engine.level := by
  simp only [State.minOnCheck]; split <;> simp

@[simp] theorem State.retryExpires_level (n : Channel) : (s.retryExpires n).engine.level = s.engine.level := by
  unfold State.retryExpires; split <;> simp

@[simp] theorem State.retryTick_level (n : Channel) : (s.retryTick n).engine.level = s.engine.level := by
  simp only [State.retryTick]
  split
  · split <;> simp
  · rfl

@[simp] theorem State.clearFault_level (n : Channel) : (s.clearFault n).1.engine.level = s.engine.level := by
  unfold State.clearFault; split <;> simp

@[simp] theorem State.forgetDraw_engine (n : Channel) : (s.forgetDraw n).1.engine = s.engine := by
  unfold State.forgetDraw; split <;> rfl

@[simp] theorem State.saveProfile_engine : s.saveProfile.1.engine = s.engine := by
  unfold State.saveProfile; split <;> rfl

@[simp] theorem State.switchToggled_engine (n : Channel) : (s.switchToggled n).engine = s.engine := rfl
@[simp] theorem State.holdToggled_engine (h : HoldLine) : (s.holdToggled h).engine = s.engine := rfl

@[simp] theorem State.switchEvent_level (n : Channel) (pressed : Bool) :
    (s.switchEvent n pressed).engine.level = s.engine.level := by
  simp only [State.switchEvent]
  split
  · split <;> simp
  · rfl

@[simp] theorem State.releaseHold_level (h : HoldLine) : (s.releaseHold h).engine.level = s.engine.level := by
  have hstep : ∀ (t : State) (n : Channel),
      (if (t.load n).waitsOn h then t.endHoldWait n else t).engine.level = t.engine.level := by
    intro t n
    split <;> simp
  unfold State.releaseHold
  exact foldl_keeps (fun t : State => t.engine.level) hstep channels s

@[simp] theorem State.forceOffRecord_level (n : Channel) : (s.forceOffRecord n).engine.level = s.engine.level := by
  unfold State.forceOffRecord; split <;> simp

@[simp] theorem State.forceOffAsserted_level : s.forceOffAsserted.engine.level = s.engine.level := by
  simp only [State.forceOffAsserted, State.raise_engine, State.mapLoads_engine]
  exact foldl_keeps (fun t : State => t.engine.level) (fun t n => t.forceOffRecord_level n) channels _

@[simp] theorem State.tripRecord_level (n : Channel) : (s.tripRecord n).engine.level = s.engine.level := by
  simp only [State.tripRecord]; split <;> simp

@[simp] theorem State.restReAnchor_engine : s.restReAnchor.engine = s.engine := by
  simp only [State.restReAnchor]; split <;> rfl

/-! ## The commands keep the level -/

section
variable {s} {t u : State}

theorem level_of_whenPowered (h : whenPowered s u = .next t) (hu : u.engine.level = s.engine.level) :
    t.engine.level = s.engine.level := by
  obtain rfl := Host.Outcome.next.inj h
  split
  · exact hu
  · rfl

theorem level_of_whenAnswering (h : whenAnswering s u = .next t) (hu : u.engine.level = s.engine.level) :
    t.engine.level = s.engine.level := by
  obtain rfl := Host.Outcome.next.inj h
  split
  · exact hu
  · rfl

/-- A command that acts only where its event is due (log 1). -/
theorem level_ite {p : Prop} [Decidable p] (hu : u.engine.level = s.engine.level) :
    (if p then u else s).engine.level = s.engine.level := by
  split
  · exact hu
  · rfl

end

theorem State.takeWork_level (w : TickWork) {f : State → State} (hf : ∀ u, (f u).engine.level = u.engine.level) :
    (s.takeWork w f).engine.level = s.engine.level := by
  obtain ⟨h, -⟩ | ⟨h, -⟩ := s.takeWork_cases w f
  · rw [h, hf, State.workTaken_engine]
  · rw [h]

/-- The level is held from one evaluation to the next (R125): only a start-up's beginning and a loss of power reset it. -/
theorem exec_level {c : Instr} {s t : State} (h : exec c s = .next t) (hevaluation : c ≠ .evaluation)
    (hpowerOn : ∀ a b, c ≠ .powerOn a b) (hloss : ∀ cut, c ≠ .lossOfPower cut) (hrestart : ∀ a, c ≠ .restart a)
    (hcompletion : ∀ i, c ≠ .saveCompletion i) : t.engine.level = s.engine.level := by
  cases c with
  | evaluation => exact absurd rfl hevaluation
  | powerOn a b => exact absurd rfl (hpowerOn a b)
  | lossOfPower cut => exact absurd rfl (hloss cut)
  | restart a => exact absurd rfl (hrestart a)
  | saveCompletion i => exact absurd rfl (hcompletion i)
  | startupStage2 => exact level_of_whenPowered h (level_ite s.stage2_level)
  | startupStage3 =>
    refine level_of_whenPowered h ?_
    split
    · exact level_ite (s.stage3_level _)
    · rfl
  | captureTick => exact level_of_whenPowered h rfl
  | pulse | quietExpiry | fullSync | setupLevelChange | holdAssertion =>
    exact level_of_whenPowered h (level_ite rfl)
  | restReAnchor | stableLevelChange | holdRelease | forceOffAssertion | forceOffRelease | trip =>
    exact level_of_whenPowered h (level_ite (by simp))
  | sampleTick | lineTick | dwellIncrement | settleEnd | cleanRun =>
    exact level_of_whenPowered h (s.takeWork_level _ fun _ => rfl)
  | minOffExpiry => exact level_of_whenPowered h (s.takeWork_level _ fun u => level_ite u.essentialSweep_level)
  | holdLimitExpiry n => exact level_of_whenPowered h (s.takeWork_level _ fun u => u.holdLimitTick_level n)
  | minOnReached n => exact level_of_whenPowered h (s.takeWork_level _ fun u => u.minOnCheck_level n)
  | retryExpiry n => exact level_of_whenPowered h (s.takeWork_level _ fun u => u.retryTick_level n)
  | pointerSet =>
    refine level_of_whenAnswering h ?_
    split
    · exact level_ite rfl
    · rfl
  | readTransaction => exact level_of_whenAnswering h (level_ite (by simp))
  | statusSnapshot => exact level_of_whenAnswering h (by simp)
  | partialWrite => exact level_of_whenAnswering h (level_ite rfl)
  | listsWrite => exact level_of_whenAnswering h rfl
  | loadCommit n => exact level_of_whenAnswering h (s.maskedCommit_level _ _ fun _ u => u.commitLoad_level n _ _)
  | meterProfileCommit => exact level_of_whenAnswering h (s.maskedCommit_level _ _ fun _ u => by simp)
  | budgetProfileCommit =>
    exact level_of_whenAnswering h (s.maskedCommit_level _ _ fun _ u => u.commitBudget_level _ _)
  | restTableCommit => exact level_of_whenAnswering h (s.maskedCommit_level _ _ fun _ u => by simp)
  | statusCommit => exact level_of_whenAnswering h (s.commitAt_level _ _ fun _ => rfl)
  | setReserve | clearAnchor => exact level_of_whenAnswering h (s.command_level _ _ fun _ => rfl)
  | setChangeMask => 
    exact level_of_whenAnswering h (s.command_level 6 0xFF (effect := fun u => (u, .done)) fun _ => rfl)
  | saveProfile => exact level_of_whenAnswering h (s.command_level _ _ fun u => by simp)
  | clearFault | forgetDraw =>
    refine level_of_whenAnswering h (s.command_level _ _ fun u => ?_)
    split <;> simp

/-! ## The stages before E7 keep the level and the DEPLETED attention -/

/-- What E7 compares its new level with, and the attention that it may set (R126). -/
def State.depletion (s : State) : BudgetLevel × Bool := (s.engine.level, s.flag .depleted)

/-- The SHED attention is another bit than DEPLETED (R185). -/
theorem State.budgetCut_flag_depleted (n : Channel) : (s.budgetCut n).flag .depleted = s.flag .depleted := by
  unfold State.budgetCut
  split
  · simp [State.flag, State.raise, Flag.mask, Flag.bit]
  · rfl

@[simp] theorem State.budgetCut_depletion (n : Channel) : (s.budgetCut n).depletion = s.depletion :=
  Prod.ext (s.budgetCut_level n) (s.budgetCut_flag_depleted n)

@[simp] theorem State.modify_depletion (n : Channel) (f : Load → Load) : (s.modify n f).depletion = s.depletion := rfl

@[simp] theorem State.start_depletion (n : Channel) : (s.start n).depletion = s.depletion := by
  obtain ⟨hport, -⟩ := s.start_frame n
  simp only [State.depletion, State.flag, State.start_level, hport]

theorem Walk.candidate_depletion (w : Walk) (n : Channel) : (w.candidate n).part.depletion = w.part.depletion := by
  unfold Walk.candidate
  split
  · split
    · exact w.part.budgetCut_depletion n
    · rfl
  · rfl

theorem Walk.deficitWalk_depletion (w : Walk) : w.deficitWalk.part.depletion = w.part.depletion := by
  unfold Walk.deficitWalk
  split
  · exact foldl_keeps (fun w : Walk => w.part.depletion) Walk.candidate_depletion _ w
  · rfl

theorem Walk.depletedRecord_depletion (w : Walk) (n : Channel) :
    (w.depletedRecord n).part.depletion = w.part.depletion := by
  simp only [Walk.depletedRecord]
  split
  · split
    · rfl
    · exact State.budgetCut_depletion _ n
  · rfl

theorem Walk.depletedStage_depletion (w : Walk) : w.depletedStage.part.depletion = w.part.depletion := by
  unfold Walk.depletedStage
  split
  · exact foldl_keeps (fun w : Walk => w.part.depletion) Walk.depletedRecord_depletion _ w
  · rfl

theorem Walk.restore_depletion (w : Walk) : w.restore.depletion = w.part.depletion := by
  unfold Walk.restore
  split
  · split
    · exact w.part.start_depletion _
    · rfl
  · rfl

/-! ## E7 and the close (R121, R122, R125, R126) -/

theorem mem_channels (n : Channel) : n ∈ channels := by
  revert n; decide

theorem State.anyStandby_iff {s : State} {p : Load → Bool} :
    s.anyStandby p = true ↔ ∃ n : Channel, (s.load n).state = .standby ∧ p (s.load n) = true := by
  simp [State.anyStandby, mem_channels]

theorem State.anyBudgetDeferral_iff {s : State} :
    s.anyBudgetDeferral = true ↔ ∃ n : Channel, (s.load n).state = .deferred ∧ (s.load n).reason = .deferred .budget := by
  simp [State.anyBudgetDeferral, mem_channels]

/-- R125's mark of SHEDDING: a STANDBY record with a shed mark, or a BUDGET deferral. -/
def State.Shedding (s : State) : Prop :=
  ∃ n : Channel, ((s.load n).state = .standby ∧ (s.load n).shed = true)
    ∨ ((s.load n).state = .deferred ∧ (s.load n).reason = .deferred .budget)

/-- R125's mark of TIGHT: a STANDBY record whose reason is BUDGET, QUEUED or HELD_BACK. -/
def State.Tight (s : State) : Prop :=
  ∃ n : Channel, (s.load n).state = .standby ∧ ((s.load n).reason = .standby .budget
    ∨ (s.load n).reason = .standby .queued ∨ (s.load n).reason = .standby .heldBack)

theorem State.shedding_iff {s : State} : (s.anyStandby (·.shed) || s.anyBudgetDeferral) = true ↔ s.Shedding := by
  rw [Bool.or_eq_true, State.anyStandby_iff, State.anyBudgetDeferral_iff, ← exists_or, State.Shedding]

theorem State.tight_iff {s : State} :
    (s.anyStandby fun r => r.reason == .standby .budget || r.reason == .standby .queued || r.reason == .standby .heldBack)
      = true ↔ s.Tight := by
  simp [State.anyStandby_iff, State.Tight, or_assoc]

/-- The level stage's table (R125), a row per clause. -/
theorem State.levelNow_table :
    (s.engine.allowance = 0 → s.levelNow = .depleted)
      ∧ (s.engine.allowance ≠ 0 → s.Shedding → s.levelNow = .shedding)
      ∧ (s.engine.allowance ≠ 0 → ¬s.Shedding → s.Tight → s.levelNow = .tight)
      ∧ (s.engine.allowance ≠ 0 → ¬s.Shedding → ¬s.Tight → s.levelNow = .ample) := by
  unfold State.levelNow
  rw [← State.shedding_iff, ← State.tight_iff]
  refine ⟨fun ha => if_pos ha, fun ha hs => ?_, fun ha hs ht => ?_, fun ha hs ht => ?_⟩
  · rw [if_neg ha, if_pos hs]
  · rw [if_neg ha, if_neg hs, if_pos ht]
  · rw [if_neg ha, if_neg hs, if_neg ht]

/-- What stands when E7 begins: the stages E1 to E6 (R107). -/
def State.beforeLevel (s : State) : State :=
  let w := (Walk.deficitWalk ⟨s.formAllowance, s.formAllowance.sense.pub.filtered, false⟩).depletedStage
  w.restore.refreshReasons w.part.restoreCandidate (w.part.restoreCandidate.any w.fits)

theorem State.evaluate_eq : s.evaluate = s.beforeLevel.setLevel.close.sweepWindows := rfl

/-- None of E1 to E6 sets the level or raises DEPLETED. -/
theorem State.beforeLevel_depletion : s.beforeLevel.depletion = s.depletion :=
  calc s.beforeLevel.depletion
    _ = (Walk.deficitWalk ⟨s.formAllowance, _, false⟩).depletedStage.part.depletion := Walk.restore_depletion _
    _ = (Walk.deficitWalk ⟨s.formAllowance, _, false⟩).part.depletion := Walk.depletedStage_depletion _
    _ = s.formAllowance.depletion := Walk.deficitWalk_depletion _
    _ = s.depletion := rfl

@[simp] theorem State.setLevel_loads : s.setLevel.loads = s.loads := by
  simp only [State.setLevel]; split <;> rfl

@[simp] theorem State.setLevel_engine : s.setLevel.engine = { s.engine with level := s.levelNow } := by
  simp only [State.setLevel]; split <;> rfl

/-- DEPLETED is raised on an entry into that level alone (R126). -/
theorem State.setLevel_flag_depleted : s.setLevel.flag .depleted = true ↔
    s.flag .depleted = true ∨ (s.levelNow = .depleted ∧ s.engine.level ≠ .depleted) := by
  have hraise : ∀ u : State, (u.raise .depleted).flag .depleted = true := fun u => by
    simp [State.flag, State.raise, Flag.mask, Flag.bit]
  simp only [State.setLevel]
  split
  case isTrue h => simpa [hraise] using .inr (by simpa using h)
  case isFalse h => simpa [State.flag] using fun hd hl => absurd hl (by simpa [hd] using h)

/-- The close and the end of the event leave E7's level and allowance, the flags, and of each record what R125 reads. -/
theorem State.load_evaluate (n : Channel) :
    (s.evaluate.load n).state = (s.beforeLevel.load n).state ∧ (s.evaluate.load n).shed = (s.beforeLevel.load n).shed
      ∧ (s.evaluate.load n).reason = (s.beforeLevel.load n).reason := by
  have hl : s.beforeLevel.setLevel.close.load n = s.beforeLevel.load n := by
    simp only [State.load, State.close, State.setLevel_loads]
  rw [State.evaluate_eq, State.load_sweepWindows, hl]
  exact ⟨rfl, rfl, rfl⟩

theorem State.evaluate_shedding : s.evaluate.Shedding ↔ s.beforeLevel.Shedding := by
  simp only [State.Shedding, State.load_evaluate]

theorem State.evaluate_tight : s.evaluate.Tight ↔ s.beforeLevel.Tight := by
  simp only [State.Tight, State.load_evaluate]

theorem State.evaluate_level : s.evaluate.engine.level = s.beforeLevel.levelNow := by
  simp [State.evaluate_eq, State.close]

theorem State.evaluate_allowance : s.evaluate.engine.allowance = s.beforeLevel.engine.allowance := by
  simp [State.evaluate_eq, State.close]

theorem State.evaluate_flag (f : Flag) : s.evaluate.flag f = s.beforeLevel.setLevel.flag f := by
  simp only [State.evaluate_eq, State.flag, State.sweepWindows_port, State.close]

/-- The level after an evaluation is that of R125's table, read on what the evaluation leaves. -/
theorem State.evaluate_table :
    (s.evaluate.engine.allowance = 0 → s.evaluate.engine.level = .depleted)
      ∧ (s.evaluate.engine.allowance ≠ 0 → s.evaluate.Shedding → s.evaluate.engine.level = .shedding)
      ∧ (s.evaluate.engine.allowance ≠ 0 → ¬s.evaluate.Shedding → s.evaluate.Tight → s.evaluate.engine.level = .tight)
      ∧ (s.evaluate.engine.allowance ≠ 0 → ¬s.evaluate.Shedding → ¬s.evaluate.Tight →
          s.evaluate.engine.level = .ample) := by
  rw [s.evaluate_level, s.evaluate_allowance, s.evaluate_shedding, s.evaluate_tight]
  exact s.beforeLevel.levelNow_table

/-- DEPLETED after an evaluation: flagged before, or entered by it (R126). -/
theorem State.evaluate_flag_depleted : s.evaluate.flag .depleted = true ↔
    s.flag .depleted = true ∨ (s.evaluate.engine.level = .depleted ∧ s.engine.level ≠ .depleted) := by
  obtain ⟨hlevel, hflag⟩ := Prod.ext_iff.mp s.beforeLevel_depletion
  dsimp only [State.depletion] at hlevel hflag
  rw [s.evaluate_flag, s.beforeLevel.setLevel_flag_depleted, hflag, hlevel, s.evaluate_level]

/-- An evaluation that is due in READY is made (R107). -/
theorem exec_evaluation_of_due {s : State} (hp : s.powered = true) (hd : .evaluation ∈ s.due)
    (hr : s.startup.ready = true) : exec .evaluation s = .next (s.workTaken .evaluation).evaluate := by
  show whenPowered s _ = _
  rw [s.takeWork_of hd]
  simp [whenPowered, hp, hr]

/-- Settles O30: E7's table on what E1 to E6 leave, which the close keeps, and the frame of every other command. -/
theorem budgetLevelFollowsItsTable : Obligations.BudgetLevelFollowsItsTable := by
  refine ⟨fun s hpowered hdue hready => ?made, fun c s t => exec_level⟩
  case made =>
    let u := s.workTaken .evaluation
    exact ⟨u.evaluate, exec_evaluation_of_due hpowered hdue hready, u.evaluate_table, u.evaluate_flag_depleted⟩

end Sys2Proof.Machine
end

section
/-! PROOFS. What the events of the records leave alone: everything but the records, the engine beside its allowance, the
attention flags and the REFUSED mark. -/

namespace Sys2Proof.Machine

variable (s : State)

/-- The part apart from its records, its engine beside the allowance, the attention flags and the REFUSED mark, on which alone
the events of the records act. -/
def State.apart (s : State) : State :=
  { s with
    loads := Vector.replicate 12 {}
    engine := { Engine.atPowerOn with allowance := s.engine.allowance }
    port := { s.port with flags := 0, refusedMark := false } }

/-- An event that keeps the part apart is known by its records, its engine and the two fields of the port. -/
theorem State.eq_of_apart {s t : State} (h : t.apart = s.apart) :
    t = { s with
      loads := t.loads, engine := t.engine
      port := { s.port with flags := t.port.flags, refusedMark := t.port.refusedMark } } := by
  have back : t = { t.apart with
      loads := t.loads, engine := t.engine
      port := { t.apart.port with flags := t.port.flags, refusedMark := t.port.refusedMark } } := rfl
  rw [back, h]
  rfl

section
variable {s} {t : State}

theorem State.powered_of_apart (h : t.apart = s.apart) : t.powered = s.powered := (congrArg State.powered h :)
theorem State.timebase_of_apart (h : t.apart = s.apart) : t.timebase = s.timebase := (congrArg State.timebase h :)
theorem State.due_of_apart (h : t.apart = s.apart) : t.due = s.due := (congrArg State.due h :)
theorem State.sense_of_apart (h : t.apart = s.apart) : t.sense = s.sense := (congrArg State.sense h :)
theorem State.reserve_of_apart (h : t.apart = s.apart) : t.reserve = s.reserve := (congrArg State.reserve h :)
theorem State.meter_of_apart (h : t.apart = s.apart) : t.meter = s.meter := (congrArg State.meter h :)
theorem State.budget_of_apart (h : t.apart = s.apart) : t.budget = s.budget := (congrArg State.budget h :)
theorem State.rest_of_apart (h : t.apart = s.apart) : t.rest = s.rest := (congrArg State.rest h :)
theorem State.switches_of_apart (h : t.apart = s.apart) : t.switches = s.switches := (congrArg State.switches h :)
theorem State.holds_of_apart (h : t.apart = s.apart) : t.holds = s.holds := (congrArg State.holds h :)
theorem State.forceOff_of_apart (h : t.apart = s.apart) : t.forceOff = s.forceOff := (congrArg State.forceOff h :)
theorem State.setup_of_apart (h : t.apart = s.apart) : t.setup = s.setup := (congrArg State.setup h :)
theorem State.store_of_apart (h : t.apart = s.apart) : t.store = s.store := (congrArg State.store h :)
theorem State.startup_of_apart (h : t.apart = s.apart) : t.startup = s.startup := (congrArg State.startup h :)
theorem State.pending_of_apart (h : t.apart = s.apart) : t.pending = s.pending := (congrArg State.pending h :)

theorem State.allowance_of_apart (h : t.apart = s.apart) : t.engine.allowance = s.engine.allowance :=
  (congrArg (fun u : State => u.engine.allowance) h :)

theorem State.port_of_apart (h : t.apart = s.apart) :
    t.port = { s.port with flags := t.port.flags, refusedMark := t.port.refusedMark } :=
  congrArg State.port (State.eq_of_apart h)

end

/-! ## The updates of records, lists and marks -/

@[simp] theorem State.modify_apart (n : Channel) (f : Load → Load) : (s.modify n f).apart = s.apart := rfl
@[simp] theorem State.mapLoads_apart (f : Channel → Load → Load) : (s.mapLoads f).apart = s.apart := rfl
@[simp] theorem State.raise_apart (g : Flag) : (s.raise g).apart = s.apart := rfl
@[simp] theorem State.refuse_apart : s.refuse.apart = s.apart := rfl
@[simp] theorem State.refuseIf_apart (b : Bool) : (s.refuseIf b).apart = s.apart := by cases b <;> rfl
@[simp] theorem State.joinStandby_apart (n : Channel) : (s.joinStandby n).apart = s.apart := rfl
@[simp] theorem State.leaveStandby_apart (n : Channel) : (s.leaveStandby n).apart = s.apart := rfl
@[simp] theorem State.joinRun_apart (n : Channel) : (s.joinRun n).apart = s.apart := rfl
@[simp] theorem State.leaveRun_apart (n : Channel) : (s.leaveRun n).apart = s.apart := rfl
@[simp] theorem State.sweepWindows_apart : s.sweepWindows.apart = s.apart := rfl
@[simp] theorem State.openWindow_apart (n : Channel) : (s.openWindow n).apart = s.apart := rfl
@[simp] theorem State.enterStandby_apart (n : Channel) : (s.enterStandby n).apart = s.apart := rfl
@[simp] theorem State.switchOff_apart (n : Channel) : (s.switchOff n).apart = s.apart := rfl
@[simp] theorem State.retire_apart (n : Channel) : (s.retire n).apart = s.apart := rfl

@[simp] theorem State.spacing_apart (k : Nat) :
    State.apart { s with engine := { s.engine with spacing := k } } = s.apart := rfl
@[simp] theorem State.holdOff_apart (k : Nat) :
    State.apart { s with engine := { s.engine with holdOff := k } } = s.apart := rfl

@[simp] theorem State.stampIssued_apart : s.stampIssued.apart = s.apart := by
  unfold State.stampIssued; split <;> rfl

/-! ## Starts, cuts and the ends of waits -/

@[simp] theorem State.start_apart (n : Channel) : (s.start n).apart = s.apart := by
  unfold State.start
  split
  · simp only [State.openWindow_apart, State.spacing_apart, State.joinRun_apart, State.stampIssued_apart,
      State.modify_apart, State.leaveStandby_apart]
  · rfl

@[simp] theorem State.essentialCheck_apart (n : Channel) : (s.essentialCheck n).apart = s.apart := by
  obtain h | ⟨h, -⟩ := s.essentialCheck_cases n <;> simp [h]

@[simp] theorem State.essentialSweep_apart : s.essentialSweep.apart = s.apart :=
  foldl_keeps State.apart (fun t n => t.essentialCheck_apart n) _ s

@[simp] theorem State.budgetCut_apart (n : Channel) : (s.budgetCut n).apart = s.apart := by
  unfold State.budgetCut
  split
  · simp only [State.holdOff_apart, State.raise_apart, State.modify_apart, State.enterStandby_apart,
      State.switchOff_apart]
  · rfl

@[simp] theorem State.cutToIdle_apart (n : Channel) : (s.cutToIdle n).apart = s.apart := by
  unfold State.cutToIdle; split <;> simp

@[simp] theorem State.forcedCut_apart (n : Channel) : (s.forcedCut n).apart = s.apart := by
  unfold State.forcedCut; split <;> simp

@[simp] theorem State.deferredCut_apart (n : Channel) : (s.deferredCut n).apart = s.apart := by
  obtain ⟨h, -⟩ | ⟨h, -⟩ := s.deferredCut_cases n <;> simp [h]

@[simp] theorem State.cutIfNoWait_apart (n : Channel) : (s.cutIfNoWait n).apart = s.apart := by
  simp only [State.cutIfNoWait]; split <;> simp

@[simp] theorem State.endHoldWait_apart (n : Channel) : (s.endHoldWait n).apart = s.apart := by
  simp [State.endHoldWait]

@[simp] theorem State.endMinOnWait_apart (n : Channel) : (s.endMinOnWait n).apart = s.apart := by
  simp [State.endMinOnWait]

@[simp] theorem State.tripRecord_apart (n : Channel) : (s.tripRecord n).apart = s.apart := by
  simp only [State.tripRecord]; split <;> simp

@[simp] theorem State.retryExpires_apart (n : Channel) : (s.retryExpires n).apart = s.apart := by
  unfold State.retryExpires; split <;> simp

@[simp] theorem State.retryTick_apart (n : Channel) : (s.retryTick n).apart = s.apart := by
  simp only [State.retryTick]
  split
  · split <;> simp
  · rfl

@[simp] theorem State.holdLimitTick_apart (n : Channel) : (s.holdLimitTick n).apart = s.apart := by
  simp only [State.holdLimitTick]
  split
  · split <;> simp
  · rfl

@[simp] theorem State.minOnCheck_apart (n : Channel) : (s.minOnCheck n).apart = s.apart := by
  simp only [State.minOnCheck]; split <;> simp

@[simp] theorem State.releaseHold_apart (h : HoldLine) : (s.releaseHold h).apart = s.apart := by
  unfold State.releaseHold
  refine foldl_keeps State.apart (fun t n => ?_) channels s
  split <;> simp

@[simp] theorem State.forceOffRecord_apart (n : Channel) : (s.forceOffRecord n).apart = s.apart := by
  unfold State.forceOffRecord; split <;> simp

/-- An assertion of FORCE_OFF takes the level, and acts on the records beside it. -/
@[simp] theorem State.forceOffAsserted_apart :
    s.forceOffAsserted.apart = State.apart { s with forceOff := ⟨true, 0⟩ } := by
  simp only [State.forceOffAsserted, State.raise_apart, State.mapLoads_apart]
  exact foldl_keeps State.apart (fun t n => t.forceOffRecord_apart n) channels _

@[simp] theorem State.clearFault_apart (n : Channel) : (s.clearFault n).1.apart = s.apart := by
  unfold State.clearFault; split <;> simp

@[simp] theorem State.forgetDraw_apart (n : Channel) : (s.forgetDraw n).1.apart = s.apart := by
  unfold State.forgetDraw; split <;> rfl

/-! ## Requests and commits -/

@[simp] theorem State.takeRequestStamp_apart (n : Channel) : (s.takeRequestStamp n).apart = s.apart := by
  simp [State.takeRequestStamp]

@[simp] theorem State.arriveOn_apart (n : Channel) : (s.arriveOn n).apart = s.apart := by
  unfold State.arriveOn
  split
  · simp
  · split <;> simp

@[simp] theorem State.offWhileOn_apart (n : Channel) : (s.offWhileOn n).apart = s.apart := by
  unfold State.offWhileOn; split <;> simp

@[simp] theorem State.arriveOff_apart (n : Channel) : (s.arriveOff n).apart = s.apart := by
  simp only [State.arriveOff]; split <;> simp

@[simp] theorem State.setRequest_apart (n : Channel) (on : Bool) : (s.setRequest n on).apart = s.apart := by
  unfold State.setRequest
  split
  · rfl
  · split <;> simp

@[simp] theorem State.switchEvent_apart (n : Channel) (pressed : Bool) : (s.switchEvent n pressed).apart = s.apart := by
  simp only [State.switchEvent]
  split
  · split <;> simp
  · rfl

@[simp] theorem State.commitVacant_apart (n : Channel) (mask : Option Wide) (w : LoadWords) :
    (s.commitVacant n mask w).apart = s.apart := by
  unfold State.commitVacant; split <;> simp

@[simp] theorem State.changeClass_apart (n : Channel) (new : Nat) : (s.changeClass n new).apart = s.apart := by
  simp only [State.changeClass]
  split
  · simp
  · split <;> simp
  all_goals simp

@[simp] theorem State.moveHold_apart (n : Channel) (before : Option HoldLine) :
    (s.moveHold n before).apart = s.apart := by
  simp only [State.moveHold]; split <;> simp

@[simp] theorem State.followEntered_apart (n : Channel) (before : SwitchMode) :
    (s.followEntered n before).apart = s.apart := by
  unfold State.followEntered; split <;> simp

@[simp] theorem State.commitClass_apart (n : Channel) (mask : Option Wide) (w : LoadWords) (refused : Bool) :
    (s.commitClass n mask w refused).apart = s.apart := by
  unfold State.commitClass
  split
  · split <;> simp
  · rfl

@[simp] theorem State.commitRequest_apart (n : Channel) (mask : Option Wide) (w : LoadWords) :
    (s.commitRequest n mask w).apart = s.apart := by
  unfold State.commitRequest; split <;> simp

@[simp] theorem State.commitEnrolled_apart (n : Channel) (mask : Option Wide) (w : LoadWords) :
    (s.commitEnrolled n mask w).apart = s.apart := by
  simp only [State.commitEnrolled, State.modify_apart, State.followEntered_apart, State.commitRequest_apart,
    State.commitClass_apart, State.moveHold_apart]
  split <;> simp

@[simp] theorem State.commitHeld_apart (n : Channel) (mask : Option Wide) (w : LoadWords) :
    (s.commitHeld n mask w).apart = s.apart := by
  unfold State.commitHeld; split <;> simp

@[simp] theorem State.commitLoad_apart (n : Channel) (mask : Option Wide) (w : LoadWords) :
    (s.commitLoad n mask w).apart = s.apart := by
  simp only [State.commitLoad, State.sweepWindows_apart]; split <;> simp

/-! ## The evaluation -/

theorem Walk.candidate_apart (w : Walk) (n : Channel) : (w.candidate n).part.apart = w.part.apart := by
  unfold Walk.candidate
  split
  · split
    · exact w.part.budgetCut_apart n
    · rfl
  · rfl

theorem Walk.deficitWalk_apart (w : Walk) : w.deficitWalk.part.apart = w.part.apart := by
  unfold Walk.deficitWalk
  split
  · exact foldl_keeps (fun w : Walk => w.part.apart) Walk.candidate_apart _ w
  · rfl

theorem Walk.depletedRecord_apart (w : Walk) (n : Channel) : (w.depletedRecord n).part.apart = w.part.apart := by
  simp only [Walk.depletedRecord]
  split
  · split
    · rfl
    · exact State.budgetCut_apart _ n
  · rfl

theorem Walk.depletedStage_apart (w : Walk) : w.depletedStage.part.apart = w.part.apart := by
  unfold Walk.depletedStage
  split
  · exact foldl_keeps (fun w : Walk => w.part.apart) Walk.depletedRecord_apart _ w
  · rfl

theorem Walk.restore_apart (w : Walk) : w.restore.apart = w.part.apart := by
  unfold Walk.restore
  split
  · split
    · exact w.part.start_apart _
    · rfl
  · rfl

@[simp] theorem State.setLevel_apart : s.setLevel.apart = s.apart := by
  simp only [State.setLevel]; split <;> rfl

/-- E1 alone of the stages forms the allowance. -/
theorem State.beforeLevel_apart : s.beforeLevel.apart = s.formAllowance.apart :=
  calc s.beforeLevel.apart
    _ = (Walk.deficitWalk ⟨s.formAllowance, _, false⟩).depletedStage.part.apart := Walk.restore_apart _
    _ = (Walk.deficitWalk ⟨s.formAllowance, _, false⟩).part.apart := Walk.depletedStage_apart _
    _ = s.formAllowance.apart := Walk.deficitWalk_apart _

@[simp] theorem State.close_apart : s.close.apart = s.apart := rfl

@[simp] theorem State.evaluate_apart : s.evaluate.apart = s.formAllowance.apart := by
  rw [s.evaluate_eq, State.sweepWindows_apart, State.close_apart, State.setLevel_apart, s.beforeLevel_apart]

/-! ## The list rebuild of stage 3 -/

@[simp] theorem State.rebuildEntry_apart (n : Channel) : (s.rebuildEntry n).apart = s.apart := by
  unfold State.rebuildEntry; split <;> simp

@[simp] theorem State.rebuildLists_apart : s.rebuildLists.apart = s.apart := by
  rw [State.rebuildLists, State.essentialSweep_apart]
  exact foldl_keeps State.apart (fun t n => t.rebuildEntry_apart n) channels _

theorem State.stage3_apart (kept : Vector ChannelWords 12) :
    (s.stage3 kept).apart = State.apart { s with startup := ⟨true, s.startup.ticks, none⟩ } := by
  let u : State := { s with loads := Vector.ofFn fun n => Load.rebuilt kept[n] s.switches[n].pressed }
  have hu : u.rebuildLists.apart = s.apart := u.rebuildLists_apart
  have hs : ∀ v : State, State.apart { v with
      engine := { v.engine with spacing := 255, holdOff := 0 }, startup := ⟨true, v.startup.ticks, none⟩ }
        = { v.apart with startup := ⟨true, v.apart.startup.ticks, none⟩ } := fun _ => rfl
  simp only [State.stage3, State.sweepWindows_apart]
  rw [hs, hu]
  rfl

/-! ## Reads -/

/-- A byte read acts on the port alone. -/
theorem State.readByte_eq : s.readByte = { s with port := s.readByte.port } := by
  simp only [State.readByte, State.takeSnapshot]; split <;> rfl

theorem State.readBytes_eq (count : Nat) : s.readBytes count = { s with port := (s.readBytes count).port } := by
  induction count generalizing s with
  | zero => rfl
  | succ k ih => rw [State.readBytes, ih, s.readByte_eq]

end Sys2Proof.Machine
end

section
/-! PROOFS. Steps that keep a law: the ways a command answers (log 1, log 11), and the measurements, the reserve and the
profiles that every step keeps in their ranges (R38, R46, R60, R66, R71). -/

namespace Sys2Proof.Machine

/-! ## A law that every command keeps -/

section
variable {I : State → Prop} {s t u : State}

theorem of_whenPowered (h : whenPowered s u = .next t) (hs : I s) (hu : s.powered = true → I u) : I t := by
  obtain rfl := Host.Outcome.next.inj h
  split
  case isTrue hp => exact hu hp
  case isFalse => exact hs

theorem of_whenAnswering (h : whenAnswering s u = .next t) (hs : I s)
    (hu : s.powered = true → s.startup.ready = true → I u) : I t := by
  obtain rfl := Host.Outcome.next.inj h
  split
  case isTrue hp =>
    obtain ⟨hpowered, hready⟩ := Bool.and_eq_true_iff.mp hp
    exact hu hpowered hready
  case isFalse => exact hs

/-- An effect that comes about only where it is due (log 1). -/
theorem of_ite {p : Prop} [Decidable p] (hs : I s) (hu : p → I u) : I (if p then u else s) := by
  split
  case isTrue hp => exact hu hp
  case isFalse => exact hs

theorem of_takeWork {w : TickWork} {f : State → State} (hs : I s) (hu : w ∈ s.due → I (f (s.workTaken w))) :
    I (s.takeWork w f) := of_ite hs hu

/-- A law of the part beside its queue that every command keeps is kept by every step. -/
theorem step_keeps (hq : ∀ s q, I s → I { s with pending := q }) (he : ∀ c s t, I s → exec c s = .next t → I t)
    (hs : I s) (h : step s = .next t) : I t := by
  unfold step at h
  split at h
  · exact Host.Outcome.next.inj h ▸ hs
  · exact he _ _ _ (hq _ _ hs) h

end

/-! ## What a command makes of the measurements, the reserve, the profiles and the allowance -/

/-- What Battery Sense and the Reserve Estimator hold, the three profiles, and the allowance formed from them. -/
structure Measures where
  sense : Sense
  reserve : Reserve
  meter : Meter
  budget : Budget
  rest : Vector Point 8
  allowance : Nat

def State.measures (s : State) : Measures := ⟨s.sense, s.reserve, s.meter, s.budget, s.rest, s.engine.allowance⟩

/-- What one command can make of them. -/
inductive MeasureStep (s : State) : Measures → Prop
  | same : MeasureStep s s.measures
  | powerOn : MeasureStep s ⟨.atPowerOn, .atPowerOn, {}, {}, factoryRest, 0⟩
  | restart : MeasureStep s { s.measures with allowance := 0 }
  | stage2 (image : StoreWords) (h : image = usedImage s.store.image) :
    MeasureStep s
      { s.measures with
        reserve := s.reserve.clampTo (meterOfWords image.meter)
        meter := meterOfWords image.meter
        budget := (budgetOfWords image.budget).corrected
        rest := restOfWords image.rest
        allowance := min s.engine.allowance ((budgetOfWords image.budget).corrected.aMax * 10) }
  | capture (high : Bool) : MeasureStep s { s.measures with sense := s.sense.capture high }
  | quiet : MeasureStep s { s.measures with sense := s.sense.quietTest s.meter }
  | pulse (d : Direction) :
    MeasureStep s { s.measures with sense := s.sense.takePulse d, reserve := s.reserve.takePulse s.meter d }
  | sample (code : BitVec 12) :
    MeasureStep s
      { s.measures with
        sense := s.sense.sample s.meter code
        reserve := s.reserve.test s.meter (s.sense.sample s.meter code).pub }
  | sync : MeasureStep s { s.measures with reserve := s.reserve.sync s.meter }
  | reanchorPassed : MeasureStep s { s.measures with reserve := { s.reserve with reanchorDue := false } }
  | reanchor : MeasureStep s
      { s.measures with
        reserve := { s.reserve with
          q := some (mapRest s.rest s.sense.pub.sensed * s.meter.capacityMas / 1000), remainder := 0
          reanchorDue := false } }
  | setReserve (p : Nat) : MeasureStep s
      { s.measures with
        reserve := { s.reserve with q := some (min p 1000 * s.meter.capacityMas / 1000), remainder := 0 } }
  | clearAnchor : MeasureStep s { s.measures with reserve := .atPowerOn }
  | meter (mask : Option Wide) (w : MeterWords) :
    MeasureStep s
      { s.measures with
        meter := (meterOfWords w).proposed mask s.meter
        reserve := s.reserve.clampTo ((meterOfWords w).proposed mask s.meter) }
  | budget (mask : Option Wide) (w : BudgetWords) (b : Budget) (h : b = ((budgetOfWords w).proposed mask s.budget).corrected) :
    MeasureStep s { s.measures with budget := b, allowance := min s.engine.allowance (b.aMax * 10) }
  | rest (mask : Option Wide) (w : Vector PointWords 8) (h : restOrdered (proposedRest mask (restOfWords w) s.rest) = true) :
    MeasureStep s { s.measures with rest := proposedRest mask (restOfWords w) s.rest }
  | evaluation : MeasureStep s { s.measures with allowance := s.budget.combined s.fraction s.sense.pub.comp }

section
variable {s t u : State}

theorem State.measures_of_apart (h : t.apart = s.apart) : t.measures = s.measures := (congrArg State.measures h :)

theorem MeasureStep.of_measures (h : u.measures = s.measures) : MeasureStep s u.measures := h ▸ .same

theorem MeasureStep.of_apart {v : State} (h : u.apart = v.apart) (hv : v.measures = s.measures) :
    MeasureStep s u.measures := .of_measures ((State.measures_of_apart h).trans hv)

theorem MeasureStep.of_whenPowered (h : whenPowered s u = .next t) (hu : MeasureStep s u.measures) :
    MeasureStep s t.measures := Machine.of_whenPowered (I := fun x => MeasureStep s x.measures) h .same fun _ => hu

theorem MeasureStep.of_whenAnswering (h : whenAnswering s u = .next t) (hu : MeasureStep s u.measures) :
    MeasureStep s t.measures :=
  Machine.of_whenAnswering (I := fun x => MeasureStep s x.measures) h .same fun _ _ => hu

theorem MeasureStep.of_ite {v : State} {p : Prop} [Decidable p] (hu : MeasureStep s u.measures)
    (hv : MeasureStep s v.measures) : MeasureStep s (if p then u else v).measures := by
  split
  · exact hu
  · exact hv

theorem MeasureStep.of_takeWork {w : TickWork} {f : State → State}
    (hf : MeasureStep s (f (s.workTaken w)).measures) : MeasureStep s (s.takeWork w f).measures := .of_ite hf .same

/-- Work of a tick that acts on the records alone. -/
theorem MeasureStep.of_recordWork {w : TickWork} {f : State → State} (hf : ∀ u, (f u).apart = u.apart) :
    MeasureStep s (s.takeWork w f).measures := .of_takeWork (.of_apart (hf _) rfl)

end

theorem State.readByte_measures (s : State) : s.readByte.measures = s.measures := by
  rw [s.readByte_eq]; rfl

theorem State.readBytes_measures (s : State) (count : Nat) : (s.readBytes count).measures = s.measures := by
  rw [s.readBytes_eq]; rfl

theorem State.stage2_measures (s : State) : MeasureStep s s.stage2.measures := by
  have h := MeasureStep.stage2 (s := s) _ rfl
  simp only [State.stage2]
  split <;> exact h

theorem State.restReAnchor_measures (s : State) : MeasureStep s s.restReAnchor.measures := by
  simp only [State.restReAnchor]
  split
  · exact .reanchor
  · exact .reanchorPassed

theorem State.completeSave_measures (s : State) (image found : StoreWords) :
    MeasureStep s (s.completeSave image found).measures := by
  simp only [State.completeSave]
  split
  · split <;> exact .restart
  · split <;> exact .same

@[simp] theorem State.refuseIf_measures (s : State) (b : Bool) : (s.refuseIf b).measures = s.measures := by
  cases b <;> rfl

section
variable (s : State) (p : Port) (mask : Option Wide)

theorem State.commitMeter_measures (w : MeterWords) :
    MeasureStep s (State.commitMeter mask w { s with port := p }).measures := by
  simp only [State.commitMeter]
  exact .of_ite (.meter mask w) (.of_measures (State.refuseIf_measures _ _))

theorem State.commitBudget_measures (w : BudgetWords) :
    MeasureStep s (State.commitBudget mask w { s with port := p }).measures := by
  simp only [State.commitBudget]
  exact .of_ite (.budget mask w _ rfl) (.of_measures (State.refuseIf_measures _ _))

theorem State.commitRest_measures (w : Vector PointWords 8) :
    MeasureStep s (State.commitRest mask w { s with port := p }).measures := by
  simp only [State.commitRest]
  refine .of_ite ?_ (.of_measures (State.refuseIf_measures _ _))
  split
  case isTrue h => exact .rest mask w h
  case isFalse => exact .same

end

/-- A command record's commit makes of the measures what its effect makes. -/
theorem MeasureStep.of_command {s t : State} {i : Nat} {channel : Byte} {effect : State → State × CommandResult}
    (h : whenAnswering s (s.command i channel effect) = .next t)
    (he : ∀ p : Port, MeasureStep s (effect { s with port := p }).1.measures) : MeasureStep s t.measures :=
  .of_whenAnswering h (he (s.port.reach .command i))

/-- A record's commit makes of them what its effect makes. -/
theorem MeasureStep.of_commit {s t : State} {space : Space} {index : Nat} {effect : Option Wide → State → State}
    (h : whenAnswering s (s.maskedCommit space index effect) = .next t)
    (he : ∀ (p : Port) mask, MeasureStep s (effect mask { s with port := p }).measures) : MeasureStep s t.measures :=
  .of_whenAnswering h (he (s.port.reach space index) s.port.mask)

/-- Every command makes one of these steps. -/
theorem exec_measures {c : Instr} {s t : State} (h : exec c s = .next t) : MeasureStep s t.measures := by
  cases c with
  | powerOn a b => exact Host.Outcome.next.inj h ▸ .powerOn
  | lossOfPower => exact .of_whenPowered h .powerOn
  | startupStage2 => exact .of_whenPowered h (.of_ite s.stage2_measures .same)
  | startupStage3 =>
    refine .of_whenPowered h ?_
    split
    · exact .of_ite (.of_apart (s.stage3_apart _) rfl) .same
    · exact .same
  | captureTick high => exact .of_whenPowered h (.capture high)
  | pulse d => exact .of_whenPowered h (.of_ite (.pulse (directionOf d)) .same)
  | sampleTick code => exact .of_whenPowered h (.of_takeWork (.sample code))
  | quietExpiry => exact .of_whenPowered h (.of_ite .quiet .same)
  | fullSync => exact .of_whenPowered h (.of_ite .sync .same)
  | restReAnchor => exact .of_whenPowered h (.of_ite s.restReAnchor_measures .same)
  | evaluation =>
    have hm : ∀ u : State, u.evaluate.measures = u.formAllowance.measures := fun u =>
      State.measures_of_apart u.evaluate_apart
    refine .of_whenPowered h (.of_takeWork (.of_ite ?_ .same))
    rw [hm]
    exact .evaluation
  | saveCompletion found =>
    refine .of_whenPowered h ?_
    split
    · exact s.completeSave_measures _ found
    · exact .same
  | setupLevelChange | holdAssertion => exact .of_whenPowered h (.of_ite .same .same)
  | stableLevelChange n =>
    exact .of_whenPowered h (.of_ite (.of_apart (v := s.switchToggled n) (by simp) rfl) .same)
  | holdRelease l => exact .of_whenPowered h (.of_ite (.of_apart (v := s.holdToggled l) (by simp) rfl) .same)
  | forceOffAssertion => exact .of_whenPowered h (.of_ite (.of_apart s.forceOffAsserted_apart rfl) .same)
  | forceOffRelease =>
    exact .of_whenPowered h (.of_ite (.of_apart (v := { s with forceOff := ⟨false, 0⟩ }) (by simp) rfl) .same)
  | trip n => exact .of_whenPowered h (.of_ite (.of_apart (v := s) (by simp) rfl) .same)
  | lineTick => exact .of_whenPowered h (.of_takeWork .same)
  | dwellIncrement | settleEnd | cleanRun => exact .of_whenPowered h (.of_recordWork fun _ => rfl)
  | minOffExpiry => exact .of_whenPowered h (.of_recordWork fun u => by split <;> simp)
  | holdLimitExpiry n => exact .of_whenPowered h (.of_recordWork fun u => u.holdLimitTick_apart n)
  | minOnReached n => exact .of_whenPowered h (.of_recordWork fun u => u.minOnCheck_apart n)
  | retryExpiry n => exact .of_whenPowered h (.of_recordWork fun u => u.retryTick_apart n)
  | pointerSet =>
    refine .of_whenAnswering h ?_
    split
    · exact .of_ite .same .same
    · exact .same
  | readTransaction => exact .of_whenAnswering h (.of_ite (.of_measures (State.readBytes_measures _ _)) .same)
  | statusSnapshot => exact .of_whenAnswering h (.of_measures (State.readByte_measures _))
  | partialWrite => exact .of_whenAnswering h (.of_ite .same .same)
  | listsWrite | statusCommit | setChangeMask => exact .of_whenAnswering h .same
  | loadCommit n =>
    exact .of_commit h fun p mask => .of_apart (State.commitLoad_apart _ n mask _) rfl
  | meterProfileCommit => exact .of_commit h fun p mask => s.commitMeter_measures p mask _
  | budgetProfileCommit => exact .of_commit h fun p mask => s.commitBudget_measures p mask _
  | restTableCommit => exact .of_commit h fun p mask => s.commitRest_measures p mask _
  | setReserve p => exact .of_whenAnswering h (.setReserve (argumentWord p).toNat)
  | clearAnchor => exact .of_whenAnswering h .clearAnchor
  | restart =>
    refine .of_whenAnswering h ?_
    split
    · exact .restart
    · exact .same
  | saveProfile =>
    refine .of_command h fun p => ?_
    unfold State.saveProfile
    split <;> exact .same
  | clearFault =>
    refine .of_command h fun p => ?_
    split
    · exact .of_apart (State.clearFault_apart _ _) rfl
    · exact .same
  | forgetDraw =>
    refine .of_command h fun p => ?_
    split
    · exact .of_apart (State.forgetDraw_apart _ _) rfl
    · exact .same

/-! ## The published set (R34, R36 to R38) -/

/-- A part of the way, truncated, ends between the two ends (R36). -/
theorem filterStep_between (k : Nat) (f c : Int) : min f c ≤ filterStep k f c ∧ filterStep k f c ≤ max f c := by
  have hk : (1 : Int) ≤ 2 ^ k := one_le_pow₀ (by decide)
  unfold filterStep
  obtain hd | hd := le_total 0 (c - f)
  · have hlow : 0 ≤ (c - f).tdiv (2 ^ k) := Int.tdiv_nonneg hd (by omega)
    have hhigh : (c - f).tdiv (2 ^ k) ≤ c - f := Int.tdiv_le_self _ hd
    omega
  · have hlow : 0 ≤ (f - c).tdiv (2 ^ k) := Int.tdiv_nonneg (by omega) (by omega)
    have hhigh : (f - c).tdiv (2 ^ k) ≤ f - c := Int.tdiv_le_self _ (by omega)
    have hneg : (c - f).tdiv (2 ^ k) = -(f - c).tdiv (2 ^ k) := by rw [← Int.neg_tdiv, neg_sub]
    omega

theorem filterStep_zero (f c : Int) : filterStep 0 f c = c := by simp [filterStep]

/-- The estimate is clamped (R34). -/
theorem Sense.estimate_bounds (m : Meter) (b : Sense) : -500000 ≤ (b.estimate m).1 ∧ (b.estimate m).1 ≤ 500000 := by
  have hmagnitude : ∀ w d, estimateMagnitude w d ≤ 500000 := fun w d => Nat.min_le_left ..
  unfold Sense.estimate
  split
  · decide
  · next p _ =>
    have h := hmagnitude m.pulseWeight (max p b.sinceLast)
    dsimp only
    split <;> omega

theorem compensate_le (r v : Nat) (f : Int) : compensate r v f ≤ 32767 := by
  unfold compensate; omega

/-- The set that a sample tick publishes lies in its ranges if the filtered current before does. -/
theorem Sense.publish_lawful (m : Meter) (code : BitVec 12) {b : Sense} (h : b.pub.lawful) : (b.publish m code).lawful := by
  obtain ⟨-, -, hlow, hhigh, -, -⟩ := h
  have hestimate := b.estimate_bounds m
  have hstep := filterStep_between m.filterShift b.pub.filtered (b.estimate m).1
  have hcode := code.isLt
  refine ⟨hestimate.1, hestimate.2, ?_, ?_, ?_, compensate_le ..⟩ <;> simp only [Sense.publish] <;> omega

theorem Sense.quietTest_pub (m : Meter) (b : Sense) : (b.quietTest m).pub = b.pub := by
  unfold Sense.quietTest
  split
  · rfl
  · split <;> rfl

theorem Sense.sample_lawful (m : Meter) (code : BitVec 12) {b : Sense} (h : b.pub.lawful) :
    (b.sample m code).pub.lawful :=
  Sense.publish_lawful m code (by rw [b.quietTest_pub m]; exact h)

/-- No command takes the published set out of its ranges: only a sample tick publishes. -/
theorem MeasureStep.pub_lawful {s : State} {m : Measures} (h : MeasureStep s m) (hs : s.sense.pub.lawful) :
    m.sense.pub.lawful := by
  cases h with
  | powerOn => decide
  | quiet => rw [Sense.quietTest_pub]; exact hs
  | sample code => exact Sense.sample_lawful _ code hs
  | _ => exact hs

/-- Settles O13: the set of a sample tick lies in its ranges by its clamps, and no other command publishes. -/
theorem measurementsStayInRange : Obligations.MeasurementsStayInRange := fun _ _ hs h =>
  step_keeps (I := fun x => x.sense.pub.lawful) (fun _ _ hs => hs) (fun _ _ _ hs h => (exec_measures h).pub_lawful hs) hs h

/-! ## The profiles (R41, R59, R60, R69, R71) -/

theorem meterOfWords_lawful (w : MeterWords) : (meterOfWords w).lawful := by
  have hrest := w.restCurrent.isLt
  have htail := w.tailCurrent.isLt
  simp only [Meter.lawful, meterOfWords, clampTo]
  omega

theorem Meter.proposed_lawful (mask : Option Wide) {new held : Meter} (hn : new.lawful) (hh : held.lawful) :
    (new.proposed mask held).lawful := by
  have pick : ∀ (P : Nat → Prop) (b : Bool) (x y : Nat), P x → P y → P (if b then x else y) := fun P b x y hx hy => by
    cases b
    · exact hy
    · exact hx
  obtain ⟨h1, h2, h3, h4, h5, h6, h7, h8, h9, h10, h11, h12⟩ := hn
  obtain ⟨g1, g2, g3, g4, g5, g6, g7, g8, g9, g10, g11, g12⟩ := hh
  exact ⟨pick (fun x => 1 ≤ x ∧ x ≤ 1000) _ _ _ h1 g1, pick (fun x => 100 ≤ x ∧ x ≤ 60000) _ _ _ h2 g2,
    pick (fun x => 800 ≤ x ∧ x ≤ 1000) _ _ _ h3 g3, pick (· ≤ 1000) _ _ _ h4 g4,
    pick (fun x => 1 ≤ x ∧ x ≤ 1500) _ _ _ h5 g5, pick (· ≤ 7) _ _ _ h6 g6,
    pick (fun x => 1 ≤ x ∧ x ≤ 240) _ _ _ h7 g7, pick (· ≤ 65535) _ _ _ h8 g8, pick (· ≤ 1000) _ _ _ h9 g9,
    pick (· ≤ 32767) _ _ _ h10 g10, pick (· ≤ 65535) _ _ _ h11 g11, pick (fun x => 1 ≤ x ∧ x ≤ 60) _ _ _ h12 g12⟩

theorem MeasureStep.meter_lawful {s : State} {m : Measures} (h : MeasureStep s m) (hs : s.meter.lawful) :
    m.meter.lawful := by
  cases h with
  | powerOn => decide
  | stage2 image => exact meterOfWords_lawful _
  | meter mask w => exact Meter.proposed_lawful mask (meterOfWords_lawful w) hs
  | _ => exact hs

/-- The budget fields lie in their ranges, the two relations aside (R69). -/
def Budget.InRange (b : Budget) : Prop :=
  b.fFloor ≤ 1000 ∧ b.fFull ≤ 1000 ∧ b.vCut ≤ 32767 ∧ b.vOk ≤ 32767 ∧ (1 ≤ b.aMax ∧ b.aMax ≤ 65535)
    ∧ b.margin ≤ 65535 ∧ (1 ≤ b.spacing ∧ b.spacing ≤ 60) ∧ (1 ≤ b.cutHoldOff ∧ b.cutHoldOff ≤ 60)
    ∧ (10 ≤ b.debounce ∧ b.debounce ≤ 250)

theorem Budget.lawful.inRange {b : Budget} (h : b.lawful) : b.InRange := by
  unfold Budget.InRange; omega

theorem budgetOfWords_inRange (w : BudgetWords) : (budgetOfWords w).InRange := by
  have hmax := w.aMax.isLt
  have hmargin := w.margin.isLt
  simp only [Budget.InRange, budgetOfWords, clampTo]
  omega

theorem Budget.proposed_inRange (mask : Option Wide) {new held : Budget} (hn : new.InRange) (hh : held.InRange) :
    (new.proposed mask held).InRange := by
  have pick : ∀ (P : Nat → Prop) (b : Bool) (x y : Nat), P x → P y → P (if b then x else y) := fun P b x y hx hy => by
    cases b
    · exact hy
    · exact hx
  obtain ⟨h1, h2, h3, h4, h5, h6, h7, h8, h9⟩ := hn
  obtain ⟨g1, g2, g3, g4, g5, g6, g7, g8, g9⟩ := hh
  exact ⟨pick (· ≤ 1000) _ _ _ h1 g1, pick (· ≤ 1000) _ _ _ h2 g2, pick (· ≤ 32767) _ _ _ h3 g3,
    pick (· ≤ 32767) _ _ _ h4 g4, pick (fun x => 1 ≤ x ∧ x ≤ 65535) _ _ _ h5 g5, pick (· ≤ 65535) _ _ _ h6 g6,
    pick (fun x => 1 ≤ x ∧ x ≤ 60) _ _ _ h7 g7, pick (fun x => 1 ≤ x ∧ x ≤ 60) _ _ _ h8 g8,
    pick (fun x => 10 ≤ x ∧ x ≤ 250) _ _ _ h9 g9⟩

/-- The corrected pair is in order, within its greatest value, whatever the pair (R71). -/
theorem keepAbove_lt {top upper lower : Nat} (htop : 0 < top) (hu : upper ≤ top) :
    (keepAbove top upper lower).2 < (keepAbove top upper lower).1 ∧ (keepAbove top upper lower).1 ≤ top := by
  unfold keepAbove
  split
  · exact ⟨‹_›, hu⟩
  · split <;> dsimp only <;> omega

theorem Budget.corrected_lawful {b : Budget} (h : b.InRange) : b.corrected.lawful := by
  obtain ⟨-, hfull, -, hok, hmax, hmargin, hspacing, hhold, hdebounce⟩ := h
  have hf := keepAbove_lt (lower := b.fFloor) (by decide) hfull
  have hv := keepAbove_lt (lower := b.vCut) (by decide) hok
  exact ⟨hf.1, hf.2, hv.1, hv.2, hmax, hmargin, hspacing, hhold, hdebounce⟩

/-- A lawful profile needs no correction. -/
theorem Budget.corrected_of_lawful {b : Budget} (h : b.lawful) : b.corrected = b := by
  obtain ⟨hf, -, hv, -⟩ := h
  simp only [Budget.corrected, keepAbove, if_pos hf, if_pos hv]

theorem MeasureStep.budget_lawful {s : State} {m : Measures} (h : MeasureStep s m) (hs : s.budget.lawful) :
    m.budget.lawful := by
  cases h with
  | powerOn => decide
  | stage2 image => exact Budget.corrected_lawful (budgetOfWords_inRange _)
  | budget mask w b h => exact h ▸ Budget.corrected_lawful (Budget.proposed_inRange mask (budgetOfWords_inRange w) hs.inRange)
  | _ => exact hs

/-! ## The allowance (R64 to R66) -/

theorem ramp_le {top lo hi x : Nat} : ramp top lo hi x ≤ top := by
  unfold ramp
  split
  · exact le_rfl
  · split
    · exact Nat.zero_le _
    · next hhi _ =>
      exact Nat.div_le_of_le_mul (by rw [Nat.mul_comm]; exact Nat.mul_le_mul_right _ (by omega))

theorem Budget.combined_le (b : Budget) (f : Option Nat) (comp : Nat) : b.combined f comp ≤ b.aMaxMa := by
  unfold Budget.combined
  split
  · exact (Nat.min_le_left ..).trans ramp_le
  · exact ramp_le

theorem MeasureStep.allowance_le {s : State} {m : Measures} (h : MeasureStep s m) (hs : s.allowanceLaw) :
    m.allowance ≤ m.budget.aMaxMa := by
  cases h with
  | powerOn | restart => exact Nat.zero_le _
  | stage2 | budget => exact Nat.min_le_right ..
  | evaluation => exact s.budget.combined_le _ _
  | _ => exact hs

/-- Settles O23: the allowance is formed by ramps up to A_max, and a new profile is corrected and clamps it. -/
theorem allowanceStaysWithinItsGreatest : Obligations.AllowanceStaysWithinItsGreatest := fun _ _ ha hb h =>
  step_keeps (I := fun x => x.allowanceLaw ∧ x.budget.lawful) (fun _ _ hs => hs)
    (fun _ _ _ hs h => ⟨(exec_measures h).allowance_le hs.1, (exec_measures h).budget_lawful hs.2⟩) ⟨ha, hb⟩ h

/-! ## The rest table (R60) -/

theorem restOrdered_iff {t : Vector Point 8} : restOrdered t = true ↔
    ∀ i : Fin 7, t[i.castSucc].voltage < t[i.succ].voltage ∧ t[i.castSucc].fraction ≤ t[i.succ].fraction := by
  simp [restOrdered, Point.above, Fin.forall_fin_succ, and_assoc]

/-- A table whose neighbours are in order is in order (R60). -/
theorem restLawful_of_ordered {t : Vector Point 8} (hr : ∀ i : Fin 8, t[i].voltage ≤ 32767 ∧ t[i].fraction ≤ 1000)
    (ho : restOrdered t = true) : restLawful t := by
  have hnext := restOrdered_iff.mp ho
  have hv : StrictMono fun i : Fin 8 => t[i].voltage := Fin.strictMono_iff_lt_succ.mpr fun i => (hnext i).1
  have hf : Monotone fun i : Fin 8 => t[i].fraction := Fin.monotone_iff_le_succ.mpr fun i => (hnext i).2
  exact ⟨hr, fun i j hij => ⟨hv hij, hf hij.le⟩⟩

theorem restLawful.ordered {t : Vector Point 8} (h : restLawful t) : restOrdered t = true :=
  restOrdered_iff.mpr fun i => h.2 _ _ i.castSucc_lt_succ

theorem restOfWords_inRange (w : Vector PointWords 8) (i : Fin 8) :
    (restOfWords w)[i].voltage ≤ 32767 ∧ (restOfWords w)[i].fraction ≤ 1000 := by
  simp [restOfWords, pointOfWords]

theorem proposedRest_inRange (mask : Option Wide) {new held : Vector Point 8}
    (hn : ∀ i : Fin 8, new[i].voltage ≤ 32767 ∧ new[i].fraction ≤ 1000)
    (hh : ∀ i : Fin 8, held[i].voltage ≤ 32767 ∧ held[i].fraction ≤ 1000) (i : Fin 8) :
    (proposedRest mask new held)[i].voltage ≤ 32767 ∧ (proposedRest mask new held)[i].fraction ≤ 1000 := by
  have hn := hn i
  have hh := hh i
  simp only [proposedRest, Fin.getElem_fin, Vector.getElem_ofFn] at hn hh ⊢
  constructor <;> split <;> tauto

theorem factoryRest_ordered : restOrdered (restOfWords factoryImage.rest) = true := by
  decide

theorem usedImage_rest_ordered (w : StoreWords) : restOrdered (restOfWords (usedImage w).rest) = true := by
  unfold usedImage
  split
  case isTrue h =>
    simp only [imageGood, restGood, Bool.and_eq_true] at h
    tauto
  case isFalse => exact factoryRest_ordered

theorem MeasureStep.rest_lawful {s : State} {m : Measures} (h : MeasureStep s m) (hs : restLawful s.rest) :
    restLawful m.rest := by
  cases h with
  | powerOn => exact restLawful_of_ordered (by decide) (by decide)
  | stage2 image h =>
    exact restLawful_of_ordered (restOfWords_inRange _) (h ▸ usedImage_rest_ordered _)
  | rest mask w h => exact restLawful_of_ordered (proposedRest_inRange mask (restOfWords_inRange w) hs.1) h
  | _ => exact hs

/-! ## The reserve (R46 to R58) -/

/-- The walk along points whose fractions do not fall and reach 1000 at most gives 1000 at most. -/
theorem mapAbove_le {v : Nat} {l : List Point} {a : Point} (hl : (a :: l).Pairwise fun p q => p.fraction ≤ q.fraction)
    (hr : ∀ p ∈ a :: l, p.fraction ≤ 1000) : mapAbove a v l ≤ 1000 := by
  induction l generalizing a with
  | nil => exact hr a (by simp)
  | cons b l ih =>
    have hb : b.fraction ≤ 1000 := hr b (by simp)
    rw [mapAbove]
    split
    case isTrue hv => exact (interpolate_le_fraction (List.rel_of_pairwise_cons hl (by simp)) hv.le).trans hb
    case isFalse => exact ih hl.of_cons fun p hp => hr p (List.mem_cons_of_mem _ hp)

/-- A lawful table maps every voltage to a fraction of 1000 at most (R53). -/
theorem mapRest_le {t : Vector Point 8} (ht : restLawful t) (v : Nat) : mapRest t v ≤ 1000 := by
  have hlist : (t[0] :: List.ofFn fun j : Fin 7 => t[j.succ]) = List.ofFn fun i : Fin 8 => t[i] := by
    rw [List.ofFn_succ (n := 7)]; rfl
  by_cases hv : v ≤ t[0].voltage
  · exact mapRest_of_le hv ▸ (ht.1 0).2
  · rw [mapRest_of_gt (Nat.not_le.mp hv)]
    refine mapAbove_le ?_ ?_
    · rw [hlist, List.pairwise_ofFn]
      exact fun i j hij => (ht.2 i j hij).2
    · intro p hp
      rw [hlist, List.mem_ofFn] at hp
      obtain ⟨i, rfl⟩ := hp
      exact (ht.1 i).2

/-- A per-mille of the capacity lies within it. -/
theorem perMille_le {p c : Nat} (h : p ≤ 1000) : p * c / 1000 ≤ c :=
  Nat.div_le_of_le_mul (Nat.mul_le_mul_right c h)

/-- Q within the capacity and the remainder within 999 (R46). -/
def Reserve.Within (m : Meter) (e : Reserve) : Prop := (∀ q ∈ e.q, q ≤ m.capacityMas) ∧ e.remainder ≤ 999

theorem Reserve.within_some {m : Meter} {e : Reserve} {q : Nat} (hq : e.q = some q) (h : q ≤ m.capacityMas)
    (hr : e.remainder ≤ 999) : e.Within m := by
  refine ⟨fun k hk => ?_, hr⟩
  obtain rfl : q = k := Option.some.inj (hq ▸ hk)
  exact h

theorem Reserve.clampTo_within (m : Meter) {e : Reserve} (hr : e.remainder ≤ 999) : (e.clampTo m).Within m := by
  unfold Reserve.clampTo
  split
  case h_1 q hq =>
    split
    · exact Reserve.within_some rfl le_rfl (Nat.zero_le _)
    · exact Reserve.within_some hq (by omega) hr
  case h_2 hq => exact ⟨by simp [hq], hr⟩

theorem Reserve.takePulse_within {m : Meter} {e : Reserve} (d : Direction) (h : e.Within m) : (e.takePulse m d).Within m := by
  cases hq : e.q with
  | none =>
    cases d
    · exact ⟨by simp [Reserve.takePulse, Reserve.dischargePulse, hq], h.2⟩
    · simpa [Reserve.takePulse, Reserve.chargePulse, hq] using h
  | some q =>
    have hle : q ≤ m.capacityMas := h.1 q hq
    cases d with
    | discharge =>
      refine Reserve.within_some (q := q - m.pulseWeight) (by simp [Reserve.takePulse, Reserve.dischargePulse, hq]) ?_ h.2
      omega
    | charge =>
      by_cases hbelow : q + (m.pulseWeight * m.efficiency + e.remainder) / 1000 < m.capacityMas
      · rw [Reserve.takePulse, Reserve.chargePulse_of_lt hq hbelow]
        exact Reserve.within_some rfl hbelow.le (by dsimp only; omega)
      · rw [Reserve.takePulse, Reserve.chargePulse_of_ge hq (Nat.not_lt.mp hbelow)]
        exact Reserve.within_some rfl le_rfl (Nat.zero_le _)

theorem MeasureStep.reserve_within {s : State} {m : Measures} (h : MeasureStep s m) (hs : s.reserve.Within s.meter)
    (hr : restLawful s.rest) : m.reserve.Within m.meter := by
  cases h with
  | powerOn | clearAnchor => exact ⟨by simp [Reserve.atPowerOn], Nat.zero_le _⟩
  | stage2 | meter => exact Reserve.clampTo_within _ hs.2
  | pulse d => exact Reserve.takePulse_within d hs
  | sync => exact Reserve.within_some rfl le_rfl (Nat.zero_le _)
  | reanchor => exact Reserve.within_some rfl (perMille_le (mapRest_le hr _)) (Nat.zero_le _)
  | setReserve p => exact Reserve.within_some rfl (perMille_le (Nat.min_le_right ..)) (Nat.zero_le _)
  | _ => exact hs

/-- Settles O18: a pulse stops at 0 and at C, an anchor is a per-mille of C, and a new profile clamps Q to its own C. -/
theorem reserveStaysWithinCapacity : Obligations.ReserveStaysWithinCapacity := fun _ _ hq hr hm h =>
  step_keeps (I := fun x => x.reserveLaw ∧ restLawful x.rest ∧ x.meter.lawful) (fun _ _ hs => hs)
    (fun _ _ _ hs h =>
      ⟨(exec_measures h).reserve_within hs.1 hs.2.1, (exec_measures h).rest_lawful hs.2.1,
        (exec_measures h).meter_lawful hs.2.2⟩)
    ⟨hq, hr, hm⟩ h

end Sys2Proof.Machine
end

section
/-! PROOFS. What an event at one record leaves of the others: every record but its own, but for the learn windows that the end
of the event closes (R164). -/

namespace Sys2Proof.Machine

/-! ## The records beside one -/

/-- The records of the other channels. -/
def State.others (n : Channel) (s : State) : Vector Load 12 := s.loads.set n {}

theorem State.load_of_others {n m : Channel} {s t : State} (h : t.others n = s.others n) (hm : m ≠ n) :
    t.load m = s.load m := by
  have hv : n.val ≠ m.val := fun he => hm (Fin.ext he.symm)
  have hget : (t.others n)[m] = (s.others n)[m] := by rw [h]
  simpa [State.others, State.load, hv] using hget

theorem State.others_of_loads {n : Channel} {s t : State} (h : t.loads = s.loads) : t.others n = s.others n := by
  rw [State.others, State.others, h]

section
variable (s : State) (n : Channel)

@[simp] theorem State.modify_others (f : Load → Load) : (s.modify n f).others n = s.others n := by
  apply Vector.ext
  intro i hi
  simp only [State.others, State.modify, Vector.getElem_set]
  split <;> simp_all

@[simp] theorem State.raise_others (g : Flag) : (s.raise g).others n = s.others n := rfl
@[simp] theorem State.refuse_others : s.refuse.others n = s.others n := rfl
@[simp] theorem State.refuseIf_others (b : Bool) : (s.refuseIf b).others n = s.others n := by cases b <;> rfl
@[simp] theorem State.joinStandby_others (m : Channel) : (s.joinStandby m).others n = s.others n := rfl
@[simp] theorem State.leaveStandby_others (m : Channel) : (s.leaveStandby m).others n = s.others n := rfl
@[simp] theorem State.joinRun_others (m : Channel) : (s.joinRun m).others n = s.others n := rfl
@[simp] theorem State.leaveRun_others (m : Channel) : (s.leaveRun m).others n = s.others n := rfl
@[simp] theorem State.engine_others (e : Engine) : State.others n { s with engine := e } = s.others n := rfl
@[simp] theorem State.openWindow_others : (s.openWindow n).others n = s.others n := s.modify_others n _
@[simp] theorem State.stampIssued_others : s.stampIssued.others n = s.others n :=
  State.others_of_loads s.stampIssued_loads

@[simp] theorem State.enterStandby_others : (s.enterStandby n).others n = s.others n := by simp [State.enterStandby]
@[simp] theorem State.switchOff_others : (s.switchOff n).others n = s.others n := by simp [State.switchOff]
@[simp] theorem State.retire_others : (s.retire n).others n = s.others n := by simp [State.retire]

@[simp] theorem State.start_others : (s.start n).others n = s.others n := by
  unfold State.start
  split
  · simp only [State.openWindow_others, State.engine_others, State.joinRun_others, State.stampIssued_others,
      State.modify_others, State.leaveStandby_others]
  · rfl

@[simp] theorem State.essentialCheck_others : (s.essentialCheck n).others n = s.others n := by
  obtain h | ⟨h, -⟩ := s.essentialCheck_cases n <;> simp [h]

@[simp] theorem State.budgetCut_others : (s.budgetCut n).others n = s.others n := by
  unfold State.budgetCut
  split
  · simp only [State.engine_others, State.raise_others, State.modify_others, State.enterStandby_others,
      State.switchOff_others]
  · rfl

@[simp] theorem State.cutToIdle_others : (s.cutToIdle n).others n = s.others n := by
  unfold State.cutToIdle; split <;> simp

@[simp] theorem State.forcedCut_others : (s.forcedCut n).others n = s.others n := by
  unfold State.forcedCut; split <;> simp

@[simp] theorem State.deferredCut_others : (s.deferredCut n).others n = s.others n := by
  obtain ⟨h, -⟩ | ⟨h, -⟩ := s.deferredCut_cases n <;> simp [h]

@[simp] theorem State.cutIfNoWait_others : (s.cutIfNoWait n).others n = s.others n := by
  simp only [State.cutIfNoWait]; split <;> simp

@[simp] theorem State.endHoldWait_others : (s.endHoldWait n).others n = s.others n := by simp [State.endHoldWait]
@[simp] theorem State.endMinOnWait_others : (s.endMinOnWait n).others n = s.others n := by simp [State.endMinOnWait]

@[simp] theorem State.tripRecord_others : (s.tripRecord n).others n = s.others n := by
  simp only [State.tripRecord]; split <;> simp

@[simp] theorem State.retryExpires_others : (s.retryExpires n).others n = s.others n := by
  unfold State.retryExpires; split <;> simp

@[simp] theorem State.forceOffRecord_others : (s.forceOffRecord n).others n = s.others n := by
  unfold State.forceOffRecord; split <;> simp

/-! ## Requests and commits -/

@[simp] theorem State.takeRequestStamp_others : (s.takeRequestStamp n).others n = s.others n := by
  simp [State.takeRequestStamp]

@[simp] theorem State.arriveOn_others : (s.arriveOn n).others n = s.others n := by
  unfold State.arriveOn
  split
  · simp
  · split <;> simp

@[simp] theorem State.offWhileOn_others : (s.offWhileOn n).others n = s.others n := by
  unfold State.offWhileOn; split <;> simp

@[simp] theorem State.arriveOff_others : (s.arriveOff n).others n = s.others n := by
  simp only [State.arriveOff]; split <;> simp

@[simp] theorem State.setRequest_others (on : Bool) : (s.setRequest n on).others n = s.others n := by
  unfold State.setRequest
  split
  · rfl
  · split <;> simp

@[simp] theorem State.switchEvent_others (pressed : Bool) : (s.switchEvent n pressed).others n = s.others n := by
  simp only [State.switchEvent]
  split
  · split <;> simp
  · rfl

@[simp] theorem State.commitVacant_others (mask : Option Wide) (w : LoadWords) :
    (s.commitVacant n mask w).others n = s.others n := by
  unfold State.commitVacant; split <;> simp

@[simp] theorem State.changeClass_others (new : Nat) : (s.changeClass n new).others n = s.others n := by
  simp only [State.changeClass]
  split
  · simp
  · split <;> simp
  all_goals simp

@[simp] theorem State.moveHold_others (before : Option HoldLine) : (s.moveHold n before).others n = s.others n := by
  simp only [State.moveHold]; split <;> simp

@[simp] theorem State.followEntered_others (before : SwitchMode) : (s.followEntered n before).others n = s.others n := by
  unfold State.followEntered; split <;> simp

@[simp] theorem State.commitClass_others (mask : Option Wide) (w : LoadWords) (refused : Bool) :
    (s.commitClass n mask w refused).others n = s.others n := by
  unfold State.commitClass
  split
  · split <;> simp
  · rfl

@[simp] theorem State.commitRequest_others (mask : Option Wide) (w : LoadWords) :
    (s.commitRequest n mask w).others n = s.others n := by
  unfold State.commitRequest; split <;> simp

@[simp] theorem State.commitEnrolled_others (mask : Option Wide) (w : LoadWords) :
    (s.commitEnrolled n mask w).others n = s.others n := by
  simp only [State.commitEnrolled, State.modify_others, State.followEntered_others, State.commitRequest_others,
    State.commitClass_others, State.moveHold_others]
  split <;> simp

@[simp] theorem State.commitHeld_others (mask : Option Wide) (w : LoadWords) :
    (s.commitHeld n mask w).others n = s.others n := by
  unfold State.commitHeld; split <;> simp

end

/-! ## The end of the event (R164) -/

@[simp] theorem State.sweepWindows_outputs (s : State) : s.sweepWindows.outputs = s.outputs := by
  apply Vector.ext
  intro i hi
  simp [State.outputs, Load.on]

theorem Opening.spoiled_iff {n : Channel} {o : Opening} {now : Vector Bool 12} :
    o.spoiled n now = true ↔ ∃ m : Channel, m ≠ n ∧ o.lines[m] ≠ now[m] := by
  simp [Opening.spoiled, mem_channels]

/-- What the end of an event leaves of a window is what the lines that then stand leave of it. -/
theorem Window.swept_eq_leftIn (n : Channel) (t : State) (w : Window) : w.swept n t.outputs = w.leftIn n t := by
  cases w <;> simp only [Window.swept, Window.opening, Window.leftIn, Opening.spoiled_iff]

theorem Load.sameButWindow_sweepWindows {s : State} {n : Channel} {a : Load} (h : s.load n = a) :
    a.sameButWindow n s.sweepWindows := by
  rw [Load.sameButWindow, State.load_sweepWindows, h, ← Window.swept_eq_leftIn, State.sweepWindows_outputs]

/-- An event at one record that ends leaves the others but for their windows. -/
theorem State.othersSame_sweepWindows {n : Channel} {s u : State} (h : u.others n = s.others n) :
    s.othersSame n u.sweepWindows := fun _ hm => Load.sameButWindow_sweepWindows (State.load_of_others h hm)

/-- A record whose window is closed is not touched by the end of an event. -/
theorem State.load_sweepWindows_of_closed {s : State} {n : Channel} (h : (s.load n).window = .closed) :
    s.sweepWindows.load n = s.load n := by
  rw [State.load_sweepWindows, h, Window.swept_closed, ← h]

/-! ## What a cut and the end of a wait make of the record (R100, R101, R131, R136) -/

section
variable {s : State} {n : Channel}

theorem State.entryReason_switchedOff :
    (s.switchOff n).entryReason (s.load n).switchedOff
      = if s.forceOff.level then .forced else if 0 < (s.load n).minOff then .minOff else .queued := rfl

theorem State.load_budgetCut_self (h : (s.load n).on = true) :
    (s.budgetCut n).load n = (s.load n).cutStandby s.forceOff.level true := by
  rw [s.load_budgetCut h, if_pos rfl, State.entryReason_switchedOff]
  rfl

theorem State.load_forcedCut_self (h : (s.load n).on = true) :
    (s.forcedCut n).load n = (s.load n).cutStandby s.forceOff.level (s.load n).shed := by
  rw [s.load_forcedCut h, if_pos rfl, State.entryReason_switchedOff]
  rfl

theorem State.load_cutToIdle_self (h : (s.load n).on = true) : (s.cutToIdle n).load n = (s.load n).cutIdle := by
  rw [s.load_cutToIdle h, if_pos rfl]
  rfl

theorem State.load_deferredCut_self (h : (s.load n).on = true) :
    (s.deferredCut n).load n = (s.load n).cutByCause s.forceOff.level := by
  obtain ⟨hcut, hreason⟩ | ⟨hcut, hreason⟩ := s.deferredCut_cases n
  · rw [hcut, State.load_cutToIdle_self h, Load.cutByCause, if_pos hreason]
  · rw [hcut, State.load_budgetCut_self h, Load.cutByCause, if_neg hreason]

theorem Load.on_of_deferred {r : Load} (h : r.state = .deferred) : r.on = true := by simp [Load.on, h]

theorem State.load_cutIfNoWait_self (h : (s.load n).state = .deferred) :
    (s.cutIfNoWait n).load n =
      if (s.load n).waitHold || (s.load n).waitMinOn then s.load n else (s.load n).cutByCause s.forceOff.level := by
  have hcut := State.load_deferredCut_self (Load.on_of_deferred h)
  simp only [State.cutIfNoWait, h]
  cases (s.load n).waitHold <;> cases (s.load n).waitMinOn <;> simp [hcut]

/-- The end of a hold wait leaves a record with a wait left DEFERRED, and cuts any other by its cause (R136). -/
theorem State.load_endHoldWait_self (h : (s.load n).state = .deferred) :
    (s.endHoldWait n).load n =
      if (s.load n).waitMinOn then { s.load n with waitHold := false, holdTimer := 0 }
      else (s.load n).cutByCause s.forceOff.level := by
  rw [State.endHoldWait, State.load_cutIfNoWait_self (by rwa [s.load_modify_self]), s.load_modify_self]
  by_cases hw : (s.load n).waitMinOn = true
  · rw [if_pos (by simp [hw]), if_pos hw]
  · rw [if_neg (by simp [hw]), if_neg hw]
    rfl

/-- The end of a min-on wait does the same (R135, R136). -/
theorem State.load_endMinOnWait_self (h : (s.load n).state = .deferred) :
    (s.endMinOnWait n).load n =
      if (s.load n).waitHold then { s.load n with waitMinOn := false }
      else (s.load n).cutByCause s.forceOff.level := by
  rw [State.endMinOnWait, State.load_cutIfNoWait_self (by rwa [s.load_modify_self]), s.load_modify_self]
  by_cases hw : (s.load n).waitHold = true
  · rw [if_pos (by simp [hw]), if_pos hw]
  · rw [if_neg (by simp [hw]), if_neg hw]
    rfl

/-- A record that is not DEFERRED is not cut by the end of a wait that it has not. -/
theorem State.endHoldWait_of_not_deferred (h : (s.load n).state ≠ .deferred) :
    s.endHoldWait n = s.modify n fun r => { r with waitHold := false, holdTimer := 0 } := by
  simp [State.endHoldWait, State.cutIfNoWait, h]

/-- A cut record is STANDBY or IDLE. -/
theorem Load.cutByCause_state (forced : Bool) (r : Load) :
    (r.cutByCause forced).state = .idle ∨ (r.cutByCause forced).state = .standby := by
  unfold Load.cutByCause
  split
  · exact .inl rfl
  · exact .inr rfl

/-- A new hold line moves a wait, or ends it (R13). -/
theorem State.moveHold_cases (s : State) (n : Channel) (before : Option HoldLine) :
    (s.moveHold n before = s ∧ ¬((s.load n).state = .deferred ∧ (s.load n).waitHold = true
        ∧ (s.load n).holdLine ≠ before ∧ s.held (s.load n).holdLine = false))
      ∨ (s.moveHold n before = s.endHoldWait n ∧ (s.load n).state = .deferred ∧ (s.load n).waitHold = true
        ∧ (s.load n).holdLine ≠ before ∧ s.held (s.load n).holdLine = false) := by
  simp only [State.moveHold]
  split
  case isTrue h => exact .inr ⟨rfl, by simpa [and_assoc] using h⟩
  case isFalse h => exact .inl ⟨rfl, by simpa [and_assoc] using h⟩

end

/-! ## Events at one record after another -/

theorem channels_nodup : channels.Nodup := by decide

/-- Events at single records, one after another, make of each record what its own event makes, where that is known of every
state with property P, which they keep. -/
theorem State.load_foldl {f : State → Channel → State} {g : Load → Load} {P : State → Prop}
    (hP : ∀ t n, P t → P (f t n)) (ho : ∀ t n, (f t n).others n = t.others n)
    (hg : ∀ t n, P t → (f t n).load n = g (t.load n)) {l : List Channel} (hl : l.Nodup) {s : State} (hs : P s)
    (n : Channel) : (l.foldl f s).load n = if n ∈ l then g (s.load n) else s.load n := by
  induction l generalizing s with
  | nil => simp
  | cons m l ih =>
    obtain ⟨hm, hl⟩ := List.nodup_cons.mp hl
    rw [List.foldl_cons, ih hl (hP s m hs)]
    by_cases hnm : n = m
    · subst hnm
      rw [if_neg hm, if_pos List.mem_cons_self, hg s n hs]
    · rw [State.load_of_others (ho s m) hnm]
      simp only [List.mem_cons, hnm, false_or]

/-! ## An assertion of FORCE_OFF (R146, R163) -/

/-- What an assertion makes of one record. -/
def Load.forcedOff (r : Load) : Load :=
  if r.on then (if r.reason = .deferred .requestOff then r.cutIdle else r.cutStandby true r.shed) else r

theorem State.load_forceOffRecord_self {s : State} {n : Channel} (hf : s.forceOff.level = true) :
    (s.forceOffRecord n).load n = (s.load n).forcedOff := by
  unfold State.forceOffRecord Load.forcedOff
  by_cases hon : (s.load n).on = true
  · rw [if_pos hon]
    split
    case h_1 hr => rw [State.load_cutToIdle_self hon, if_pos hr]
    case h_2 hr => rw [State.load_forcedCut_self hon, if_neg hr, hf]
  · rw [if_neg hon]
    split
    · rw [State.cutToIdle, if_neg hon]
    · rw [State.forcedCut, if_neg hon]

theorem State.load_forceOffAsserted (s : State) (n : Channel) :
    s.forceOffAsserted.load n = { (s.load n).forcedOff with window := .closed } := by
  simp only [State.forceOffAsserted, State.load_raise, State.load_mapLoads]
  rw [State.load_foldl (P := fun t => t.forceOff.level = true) (g := Load.forcedOff)
    (fun t m h => by rwa [State.forceOff_of_apart (t.forceOffRecord_apart m)]) (fun t m => t.forceOffRecord_others m)
    (fun t m h => State.load_forceOffRecord_self h) channels_nodup rfl, if_pos (mem_channels n)]
  rfl

theorem Load.forcedOff_off (r : Load) : r.forcedOff.on = false := by
  unfold Load.forcedOff
  by_cases hon : r.on = true
  · rw [if_pos hon]
    split <;> rfl
  · rw [if_neg hon]
    simpa using hon

end Sys2Proof.Machine
end

section
/-! PROOFS. What the events of the records keep whatever they do: the ranges of every record and of the engine's counters
(R4, R90, R106, R155), no output on under FORCE_OFF (R147), and one STARTING record of class 1 to 7 at most (R120). -/

namespace Sys2Proof.Machine

/-! ## One record (R4, R11, R155) -/

/-- The fields that only software, learning and start-up set lie in their ranges. -/
def Load.configInRange (r : Load) : Prop :=
  r.cls ≤ 7 ∧ (1 ≤ r.declaredDraw ∧ r.declaredDraw ≤ 65534) ∧ (∀ d ∈ r.learnedDraw, 1 ≤ d ∧ d ≤ 65534)
    ∧ (1 ≤ r.settleTime ∧ r.settleTime ≤ 60) ∧ r.minOn ≤ 3600 ∧ r.minOff ≤ 3600
    ∧ (1 ≤ r.holdLimit ∧ r.holdLimit ≤ 3600) ∧ r.retryLimit ≤ 7 ∧ (1 ≤ r.retryBase ∧ r.retryBase ≤ 255)

/-- The timers and counts lie in their ranges. -/
def Load.timersInRange (r : Load) : Prop :=
  r.dwell ≤ 65535 ∧ r.settleTimer ≤ 60 ∧ r.holdTimer ≤ 3600 ∧ (∀ t ∈ r.retryTimer, t ≤ 3600) ∧ r.cleanRun ≤ 300
    ∧ r.blanking ≤ 20 ∧ r.diagRun ≤ 3

theorem Load.inRange_iff {r : Load} : r.inRange ↔ r.configInRange ∧ r.timersInRange := by
  simp only [Load.inRange, Load.configInRange, Load.timersInRange, and_assoc]

/-- A record within its ranges that keeps the laws of its retries and of VACANT. -/
structure Load.Sound (r : Load) : Prop where
  config : r.configInRange
  timers : r.timersInRange
  retries : r.retriesLaw
  vacant : r.vacantLaw

theorem Load.sound_iff {r : Load} : r.Sound ↔ r.inRange ∧ r.retriesLaw ∧ r.vacantLaw := by
  rw [Load.inRange_iff]
  exact ⟨fun h => ⟨⟨h.config, h.timers⟩, h.retries, h.vacant⟩, fun ⟨⟨hc, ht⟩, hr, hv⟩ => ⟨hc, ht, hr, hv⟩⟩

theorem Load.sound_default : ({} : Load).Sound :=
  Load.sound_iff.mpr ⟨by decide, by decide, fun _ => rfl⟩

/-- A record that is not LOCKED keeps R155's law in every other state that is not. -/
theorem Load.Sound.unlocked {r : Load} (h : r.Sound) (hl : r.state ≠ .locked) :
    r.retriesUsed ≤ r.retryLimit + 1 ∧ r.retriesUsed ≠ r.retryLimit + 1 := by
  obtain ⟨hle, hiff⟩ := h.retries
  exact ⟨hle, fun he => hl (hiff.mp he)⟩

/-- A record that has left or kept a state other than LOCKED and VACANT is sound with its config and retries as they were and
its timers in their ranges. -/
theorem Load.Sound.moved {r r' : Load} (h : r.Sound) (hl : r.state ≠ .locked) (hc : r'.configInRange)
    (hlimit : r'.retryLimit = r.retryLimit) (hused : r'.retriesUsed = r.retriesUsed) (ht : r'.timersInRange)
    (hl' : r'.state ≠ .locked) (hv' : r'.state ≠ .vacant) : r'.Sound := by
  obtain ⟨hle, hne⟩ := h.unlocked hl
  refine ⟨hc, ht, ?_, fun hv => absurd hv hv'⟩
  rw [Load.retriesLaw, hlimit, hused]
  exact ⟨hle, fun he => absurd he hne, fun hs => absurd hs hl'⟩

/-- A record that keeps its state, config and retries is sound with its timers in their ranges. -/
theorem Load.Sound.stayed {r r' : Load} (h : r.Sound) (hc : r'.configInRange)
    (hlimit : r'.retryLimit = r.retryLimit) (hused : r'.retriesUsed = r.retriesUsed) (ht : r'.timersInRange)
    (hs : r'.state = r.state) (hv : r.state = .vacant → r' = r) : r'.Sound := by
  refine ⟨hc, ht, ?_, fun hv' => ?_⟩
  · rw [Load.retriesLaw, hlimit, hused, hs]
    exact h.retries
  · have hvacant := hs ▸ hv'
    rw [hv hvacant]
    exact h.vacant hvacant

/-- One change of a record that keeps it sound, turns no output on, and makes it no STARTING record of class 1 to 7. -/
structure Load.Calm (r r' : Load) : Prop where
  sound : r.Sound → r'.Sound
  off : r'.on = true → r.on = true
  starting : r'.state = .starting → r'.cls ≠ 0 → r.state = .starting ∧ r.cls ≠ 0

theorem Load.Calm.refl (r : Load) : r.Calm r := ⟨id, id, fun h hc => ⟨h, hc⟩⟩

theorem Load.Calm.trans {a b c : Load} (h : a.Calm b) (h' : b.Calm c) : a.Calm c :=
  ⟨h'.sound ∘ h.sound, h.off ∘ h'.off, fun hs hc =>
    have ⟨hs', hc'⟩ := h'.starting hs hc
    h.starting hs' hc'⟩

/-- A change that keeps the state and the class is calm if the record stays sound. -/
theorem Load.Calm.of_state {r r' : Load} (hs : r'.state = r.state) (hc : r'.cls = r.cls) (h : r.Sound → r'.Sound) :
    r.Calm r' :=
  ⟨h, fun ho => by simpa only [Load.on, hs] using ho, fun h hc' => ⟨hs ▸ h, hc ▸ hc'⟩⟩

/-- A change to a state in which the output is off is calm if the record stays sound. -/
theorem Load.Calm.of_off {r r' : Load} (ho : r'.on = false) (h : r.Sound → r'.Sound) : r.Calm r' :=
  ⟨h, fun hon => by simp [ho] at hon, fun hs => by simp [Load.on, hs] at ho⟩

theorem Load.calm_window (w : Window) (r : Load) (hv : r.state = .vacant → w = r.window) :
    r.Calm { r with window := w } :=
  .of_state rfl rfl fun h => h.stayed h.config rfl rfl h.timers rfl fun hs => by rw [hv hs]

theorem Load.calm_switchedOff (r : Load) : r.Calm r.switchedOff := by
  refine .of_state rfl rfl fun h => ?_
  obtain ⟨-, -, -, hretry, -⟩ := h.timers
  exact h.stayed h.config rfl rfl
    ⟨Nat.zero_le _, Nat.zero_le _, Nat.zero_le _, hretry, Nat.zero_le _, Nat.zero_le _, Nat.zero_le _⟩ rfl
    fun hv => by rw [h.vacant hv]; rfl

theorem Load.Sound.none_retry {r : Load} (h : r.Sound) : ({ r with retryTimer := none } : Load).timersInRange := by
  obtain ⟨hdwell, hsettle, hhold, -, hclean, hblank, hdiag⟩ := h.timers
  exact ⟨hdwell, hsettle, hhold, by simp, hclean, hblank, hdiag⟩

theorem Load.calm_toIdle {r : Load} (hl : r.state ≠ .locked) : r.Calm r.toIdle :=
  .of_off rfl fun h => h.moved hl h.config rfl rfl h.none_retry (by simp [Load.toIdle]) (by simp [Load.toIdle])

theorem Load.calm_standby {r : Load} (hl : r.state ≠ .locked) (why : StandbyReason) (shed : Bool) :
    r.Calm { r with state := .standby, reason := .standby why, retryTimer := none, shed := shed } :=
  .of_off rfl fun h => h.moved hl h.config rfl rfl h.none_retry (by simp) (by simp)

theorem Load.sound_started {r : Load} (stamp : Nat) (w : Window) (hs : r.state = .standby) (h : r.Sound) :
    ({ r.started stamp with window := w } : Load).Sound := by
  obtain ⟨-, -, -, ⟨-, hsettle⟩, -⟩ := h.config
  obtain ⟨-, -, hhold, hretry, hclean, -, -⟩ := h.timers
  exact h.moved (by simp [hs]) h.config rfl rfl
    ⟨Nat.zero_le _, hsettle, hhold, hretry, hclean, le_rfl, Nat.zero_le _⟩ (by simp [Load.started]) (by simp [Load.started])

theorem Load.sound_deferWith {r : Load} (cause : DeferCause) (hold minOn : Bool) (ho : r.on = true) (h : r.Sound) :
    (r.deferWith cause hold minOn).Sound := by
  obtain ⟨-, -, -, -, -, -, ⟨-, hlimit⟩, -⟩ := h.config
  obtain ⟨hdwell, -, -, hretry, -, hblank, hdiag⟩ := h.timers
  refine h.moved (by rintro hl; simp [Load.on, hl] at ho) h.config rfl rfl
    ⟨hdwell, Nat.zero_le _, ?_, hretry, Nat.zero_le _, hblank, hdiag⟩ (by simp [Load.deferWith]) (by simp [Load.deferWith])
  simp only [Load.deferWith]
  split <;> omega

theorem Load.calm_deferWith {r : Load} (cause : DeferCause) (hold minOn : Bool) (ho : r.on = true) :
    r.Calm (r.deferWith cause hold minOn) :=
  ⟨Load.sound_deferWith cause hold minOn ho, fun _ => ho, fun hs => by simp [Load.deferWith] at hs⟩

theorem Load.calm_backToRunning {r : Load} (ho : r.on = true) : r.Calm r.backToRunning := by
  refine ⟨fun h => ?_, fun _ => ho, fun hs => by simp [Load.backToRunning] at hs⟩
  obtain ⟨hdwell, -, -, hretry, -, hblank, hdiag⟩ := h.timers
  exact h.moved (by rintro hl; simp [Load.on, hl] at ho) h.config rfl rfl
    ⟨hdwell, Nat.zero_le _, Nat.zero_le _, hretry, Nat.zero_le _, hblank, hdiag⟩ (by simp [Load.backToRunning])
    (by simp [Load.backToRunning])

/-! ## The part -/

/-- What every event of the records keeps. -/
structure Event (s t : State) : Prop where
  budget : t.budget = s.budget
  forceOff : t.forceOff = s.forceOff
  record : ∀ m, (s.load m).Sound → (t.load m).Sound
  spacing : s.engine.spacing ≤ 255 → t.engine.spacing ≤ 255
  holdOff : s.budget.cutHoldOff ≤ 60 → s.engine.holdOff ≤ 60 → t.engine.holdOff ≤ 60
  counter : s.counterLaw → t.counterLaw
  forced : s.forceOffLaw → t.forceOffLaw
  one : s.oneStarting → t.oneStarting

theorem Event.refl (s : State) : Event s s := ⟨rfl, rfl, fun _ => id, id, fun _ => id, id, id, id⟩

theorem Event.trans {s t u : State} (h : Event s t) (h' : Event t u) : Event s u where
  budget := h'.budget.trans h.budget
  forceOff := h'.forceOff.trans h.forceOff
  record m := h'.record m ∘ h.record m
  spacing := h'.spacing ∘ h.spacing
  holdOff hb := h'.holdOff (h.budget ▸ hb) ∘ h.holdOff hb
  counter := h'.counter ∘ h.counter
  forced := h'.forced ∘ h.forced
  one := h'.one ∘ h.one

/-- The engine's counters and what an event reads of the profile and of FORCE_OFF stay. -/
def State.counters (s : State) : Nat × Nat × Nat × Bool × Budget × Filter :=
  (s.engine.spacing, s.engine.holdOff, s.engine.seq, s.engine.exhausted, s.budget, s.forceOff)

theorem State.modify_counters (s : State) (n : Channel) (f : Load → Load) : (s.modify n f).counters = s.counters := rfl
theorem State.raise_counters (s : State) (g : Flag) : (s.raise g).counters = s.counters := rfl
theorem State.switchOff_counters (s : State) (n : Channel) : (s.switchOff n).counters = s.counters := rfl

/-- An event that changes each record calmly, and no counter. -/
theorem Event.of_calm {s t : State} (hr : ∀ m, (s.load m).Calm (t.load m)) (he : t.counters = s.counters) : Event s t := by
  simp only [State.counters, Prod.mk.injEq] at he
  obtain ⟨hspacing, hhold, hseq, hex, hbudget, hforce⟩ := he
  refine ⟨hbudget, hforce, fun m => (hr m).sound, by rw [hspacing]; exact id, fun _ => by rw [hhold]; exact id, ?_, ?_, ?_⟩
  · rw [State.counterLaw, State.counterLaw, hseq, hex]; exact id
  · intro h hl m
    by_contra hon
    rw [hforce] at hl
    exact absurd ((hr m).off (by simpa using hon)) (by simp [h hl m])
  · intro h m n hm hcm hn hcn
    obtain ⟨hm', hcm'⟩ := (hr m).starting hm hcm
    obtain ⟨hn', hcn'⟩ := (hr n).starting hn hcn
    exact h m n hm' hcm' hn' hcn'

theorem Event.of_loads {s t : State} (hl : t.loads = s.loads) (he : t.counters = s.counters) : Event s t :=
  .of_calm (fun m => by rw [State.load, State.load, hl]; exact .refl _) he

theorem Event.modify {s : State} {n : Channel} {f : Load → Load} (h : (s.load n).Calm (f (s.load n))) :
    Event s (s.modify n f) := by
  refine .of_calm (fun m => ?_) rfl
  rw [State.load_modify]
  split
  · next hm => exact hm ▸ h
  · exact .refl _

theorem Event.mapLoads {s : State} {f : Channel → Load → Load} (h : ∀ m, (s.load m).Calm (f m (s.load m))) :
    Event s (s.mapLoads f) := .of_calm (fun m => by rw [State.load_mapLoads]; exact h m) rfl

theorem Event.foldl {α : Type} {f : State → α → State} (h : ∀ t a, Event t (f t a)) (l : List α) (s : State) :
    Event s (l.foldl f s) := by
  induction l generalizing s with
  | nil => exact .refl s
  | cons a l ih => exact (h s a).trans (ih _)

theorem Event.ite {s t u : State} {p : Prop} [Decidable p] (ht : p → Event s t) (hu : ¬p → Event s u) :
    Event s (if p then t else u) := by
  split
  case isTrue hp => exact ht hp
  case isFalse hp => exact hu hp

section
variable (s : State)

theorem Event.leaveRun (n : Channel) : Event s (s.leaveRun n) := .of_loads rfl rfl
theorem Event.joinRun (n : Channel) : Event s (s.joinRun n) := .of_loads rfl rfl
theorem Event.leaveStandby (n : Channel) : Event s (s.leaveStandby n) := .of_loads rfl rfl
theorem Event.joinStandby (n : Channel) : Event s (s.joinStandby n) := .of_loads rfl rfl
/-- A budget cut sets the cut hold-off timer (R122). -/
theorem Event.cutHoldOff : Event s { s with engine := { s.engine with holdOff := s.budget.cutHoldOff } } :=
  ⟨rfl, rfl, fun _ => id, id, fun hb _ => hb, id, id, id⟩

theorem Event.raise (g : Flag) : Event s (s.raise g) := .of_loads rfl rfl
theorem Event.refuse : Event s s.refuse := .of_loads rfl rfl
theorem Event.refuseIf (b : Bool) : Event s (s.refuseIf b) := by cases b <;> exact .of_loads rfl rfl

theorem Event.sweepWindows : Event s s.sweepWindows :=
  .mapLoads fun m => by
    refine ⟨fun h => ?_, id, fun h hc => ⟨h, hc⟩⟩
    refine (Load.calm_window _ _ fun hv => ?_).sound h
    rw [h.vacant hv]
    rfl

theorem State.stampIssued_counterLaw (h : s.counterLaw) : s.stampIssued.counterLaw := by
  obtain ⟨hle, hex⟩ := h
  unfold State.stampIssued
  split
  · next hlt => exact ⟨hlt, fun he => absurd (hex he) (Nat.ne_of_lt hlt)⟩
  · next hlt => exact ⟨hle, fun _ => Nat.le_antisymm hle (Nat.not_lt.mp hlt)⟩

theorem Event.stampIssued : Event s s.stampIssued where
  budget := s.stampIssued_budget
  forceOff := s.stampIssued_forceOff
  record m h := by rwa [s.load_stampIssued]
  spacing h := by rwa [s.stampIssued_engine_spacing]
  holdOff _ h := by rwa [s.stampIssued_engine_holdOff]
  counter := s.stampIssued_counterLaw
  forced h hl m := by
    rw [s.load_stampIssued]
    exact h (by rwa [s.stampIssued_forceOff] at hl) m
  one h m n := by
    simp only [s.load_stampIssued]
    exact h m n

end

/-! ## Starts (R98, R102) -/

/-- A stamp issued acts on the engine alone (R90). -/
theorem State.stampIssued_eq (s : State) : s.stampIssued = { s with engine := s.engine.stamped } := by
  unfold State.stampIssued
  rw [show lastStamp = 4294967295 from rfl]
  split <;> rfl

theorem State.stampIssued_engine (s : State) : s.stampIssued.engine = s.engine.stamped :=
  congrArg State.engine s.stampIssued_eq

@[simp] theorem Engine.stamped_runList (e : Engine) : e.stamped.runList = e.runList := by unfold Engine.stamped; split <;> rfl
@[simp] theorem Engine.stamped_standbyList (e : Engine) : e.stamped.standbyList = e.standbyList := by
  unfold Engine.stamped; split <;> rfl

theorem Engine.stamped_lists (e : Engine) (k : Nat) (run standby : List Channel) :
    ({ e with spacing := k, runList := run, standbyList := standby } : Engine).stamped
      = { e.stamped with spacing := k, runList := run, standbyList := standby } := by
  unfold Engine.stamped; split <;> rfl

/-- The engine after a start (R90, R93, R94, R98). -/
theorem State.engine_start {s : State} {n : Channel} (hs : (s.load n).state = .standby)
    (hx : s.engine.exhausted = false) :
    (s.start n).engine = { s.engine.stamped with
      spacing := 0, runList := s.engine.runList ++ [n], standbyList := s.engine.standbyList.erase n } := by
  have hg : ((s.load n).state == LoadState.standby && !s.engine.exhausted) = true := by simp [hs, hx]
  simp only [State.start, hg, if_true, State.openWindow_engine, State.joinRun, State.stampIssued_engine,
    State.modify_engine, State.leaveStandby, Engine.stamped_runList]
  rw [Engine.stamped_lists]

theorem Event.start {s : State} {n : Channel} (hforce : s.forceOff.level = false)
    (hone : (s.load n).cls = 0 ∨ ∀ m, (s.load m).state ≠ .starting) : Event s (s.start n) := by
  by_cases h : (s.load n).state = .standby ∧ s.engine.exhausted = false
  case neg => rw [s.start_refused h]; exact .refl s
  obtain ⟨hs, hx⟩ := h
  have hl := s.load_start hs hx
  have ha := s.start_apart n
  obtain ⟨-, -, hspacing, hhold, -, -⟩ := s.start_engine hs hx
  have hseq : (s.start n).engine.seq = s.stampIssued.engine.seq := by rw [State.engine_start hs hx, s.stampIssued_engine]
  have hex : (s.start n).engine.exhausted = s.stampIssued.engine.exhausted := by
    rw [State.engine_start hs hx, s.stampIssued_engine]
  refine ⟨State.budget_of_apart ha, State.forceOff_of_apart ha, fun m h => ?_, fun _ => by rw [hspacing]; decide,
    fun _ h => by rwa [hhold], fun h => ?_, fun _ hf => ?_, fun h m k hm hcm hk hck => ?_⟩
  · rw [hl]
    split
    · next hm =>
      exact Load.sound_started _ _ hs (hm ▸ h)
    · exact h
  · rw [State.counterLaw, hseq, hex]
    exact s.stampIssued_counterLaw h
  · rw [State.forceOff_of_apart ha, hforce] at hf
    exact absurd hf (by decide)
  · have starter : ∀ j, ((s.start n).load j).state = .starting → ((s.start n).load j).cls ≠ 0 →
        (j = n ∧ (s.load n).cls ≠ 0) ∨ ((s.load j).state = .starting ∧ (s.load j).cls ≠ 0) := by
      intro j hj hcj
      rw [hl] at hj hcj
      by_cases hjn : j = n
      · rw [if_pos hjn] at hcj
        exact .inl ⟨hjn, hcj⟩
      · rw [if_neg hjn] at hj hcj
        exact .inr ⟨hj, hcj⟩
    obtain hclass | hnone := hone
    · obtain ⟨-, hc⟩ | ⟨hm', hcm'⟩ := starter m hm hcm
      · exact absurd hclass hc
      obtain ⟨-, hc⟩ | ⟨hk', hck'⟩ := starter k hk hck
      · exact absurd hclass hc
      exact h m k hm' hcm' hk' hck'
    · obtain ⟨hmn, -⟩ | ⟨hm', -⟩ := starter m hm hcm
      · obtain ⟨hkn, -⟩ | ⟨hk', -⟩ := starter k hk hck
        · exact hmn.trans hkn.symm
        · exact absurd hk' (hnone k)
      · exact absurd hm' (hnone m)

/-- An eligible record is started while FORCE_OFF is released alone (R102). -/
theorem State.eligible_released {s : State} {r : Load} (h : s.eligible r = true) : s.forceOff.level = false := by
  simp only [State.eligible, Bool.and_eq_true, Bool.not_eq_true'] at h
  exact h.1

section
variable (s : State) (n : Channel)

theorem Event.essentialCheck : Event s (s.essentialCheck n) := by
  obtain h | ⟨h, -, hc, he⟩ := s.essentialCheck_cases n
  · rw [h]; exact .refl s
  · rw [h]; exact .start (State.eligible_released he) (.inl hc)

theorem Event.essentialSweep : Event s s.essentialSweep := .foldl (fun t m => .essentialCheck t m) _ s

/-! ## Cuts (R100, R101) -/

theorem Load.on_unlocked {r : Load} (h : r.on = true) : r.state ≠ .locked := by
  rintro hl; simp [Load.on, hl] at h

theorem Event.switchOff : Event s (s.switchOff n) :=
  (Event.modify (Load.calm_switchedOff _)).trans (.leaveRun _ n)

/-- The record after its output has gone off is in the state that it was. -/
theorem State.switchOff_state : ((s.switchOff n).load n).state = (s.load n).state := by
  rw [s.load_switchOff, if_pos rfl]; rfl

variable {s n}

theorem Event.enterStandby (hl : (s.load n).state ≠ .locked) : Event s (s.enterStandby n) :=
  (Event.modify (Load.calm_standby hl _ _)).trans (.joinStandby _ n)

variable (s n)

theorem Event.budgetCut : Event s (s.budgetCut n) := by
  unfold State.budgetCut
  refine .ite (fun ho => ?_) fun _ => .refl s
  have hl : ((s.switchOff n).load n).state ≠ .locked := s.switchOff_state n ▸ Load.on_unlocked ho
  have hentered : Event s ((s.switchOff n).enterStandby n) := (Event.switchOff s n).trans (.enterStandby hl)
  have hshed : ((s.switchOff n).enterStandby n).load n =
      { (s.switchOff n).load n with
        state := .standby, reason := .standby ((s.switchOff n).entryReason ((s.switchOff n).load n)), retryTimer := none } := by
    rw [State.load_enterStandby, if_pos rfl]
  refine Event.trans (hentered.trans ((Event.modify ?_).trans (.raise _ .shed))) (.cutHoldOff _)
  refine .of_state rfl rfl fun h => h.stayed h.config rfl rfl h.timers rfl fun hv => ?_
  rw [hshed] at hv
  exact absurd hv (by simp)

theorem Event.cutToIdle : Event s (s.cutToIdle n) := by
  unfold State.cutToIdle
  refine .ite (fun ho => (Event.switchOff s n).trans (.modify (Load.calm_toIdle ?_))) fun _ => .refl s
  exact s.switchOff_state n ▸ Load.on_unlocked ho

theorem Event.forcedCut : Event s (s.forcedCut n) := by
  unfold State.forcedCut
  refine .ite (fun ho => (Event.switchOff s n).trans (.enterStandby ?_)) fun _ => .refl s
  exact s.switchOff_state n ▸ Load.on_unlocked ho

theorem Event.deferredCut : Event s (s.deferredCut n) := by
  obtain ⟨h, -⟩ | ⟨h, -⟩ := s.deferredCut_cases n <;> rw [h]
  · exact .cutToIdle s n
  · exact .budgetCut s n

theorem Event.cutIfNoWait : Event s (s.cutIfNoWait n) := by
  simp only [State.cutIfNoWait]
  exact .ite (fun _ => .deferredCut s n) fun _ => .refl s

/-- A VACANT record waits on nothing (R11). -/
theorem Load.calm_waits (r : Load) (a b : Bool) (k : Nat) (ha : a = true → r.waitHold = true)
    (hb : b = true → r.waitMinOn = true) (hk : k ≤ r.holdTimer) :
    r.Calm { r with waitHold := a, waitMinOn := b, holdTimer := k } := by
  refine .of_state rfl rfl fun h => ?_
  obtain ⟨hdwell, hsettle, hhold, hretry, hclean, hblank, hdiag⟩ := h.timers
  refine h.stayed h.config rfl rfl ⟨hdwell, hsettle, hk.trans hhold, hretry, hclean, hblank, hdiag⟩ rfl fun hs => ?_
  rw [h.vacant hs] at ha hb hk ⊢
  obtain rfl : a = false := by simpa using ha
  obtain rfl : b = false := by simpa using hb
  obtain rfl : k = 0 := Nat.le_zero.mp hk
  rfl

theorem Event.endHoldWait : Event s (s.endHoldWait n) :=
  (Event.modify (Load.calm_waits _ false _ 0 nofun id (Nat.zero_le _))).trans (.cutIfNoWait _ n)

theorem Event.endMinOnWait : Event s (s.endMinOnWait n) :=
  (Event.modify (Load.calm_waits _ _ false _ id nofun le_rfl)).trans (.cutIfNoWait _ n)

theorem Event.forceOffRecord : Event s (s.forceOffRecord n) := by
  unfold State.forceOffRecord
  split
  · exact .cutToIdle s n
  · exact .forcedCut s n

theorem Event.releaseHold (h : HoldLine) : Event s (s.releaseHold h) :=
  .foldl (fun t m => .ite (fun _ => .endHoldWait t m) fun _ => .refl t) _ s

/-! ## Trips (R150, R151) -/

/-- The record of a trip (R150, R151). -/
def Load.tripOff (r : Load) : Load :=
  let u := { r.switchedOff with retriesUsed := r.retriesUsed + 1 }
  if u.retryLimit < u.retriesUsed then u.lockedOut else u.trippedOff

theorem State.load_tripRecord (m : Channel) :
    (s.tripRecord n).load m = if m = n then (s.load n).tripOff else s.load m := by
  have hu : ((((s.switchOff n).modify n fun r => { r with retriesUsed := r.retriesUsed + 1 }).raise .trip).load n)
      = { (s.load n).switchedOff with retriesUsed := (s.load n).retriesUsed + 1 } := by
    rw [State.load_raise, State.load_modify_self, State.load_switchOff, if_pos rfl]
    rfl
  have ho : ∀ k ≠ n, (((s.switchOff n).modify n fun r => { r with retriesUsed := r.retriesUsed + 1 }).raise .trip).load k
      = s.load k := fun k hk => by
    rw [State.load_raise, State.load_modify_of_ne _ _ hk, State.load_switchOff, if_neg hk]
  simp only [State.tripRecord, Load.tripOff, hu]
  by_cases hm : m = n
  · subst hm
    rw [if_pos rfl]
    split
    · rw [State.load_raise, State.load_modify_self, hu]
    · rw [State.load_modify_self, hu]
  · rw [if_neg hm]
    split
    · rw [State.load_raise, State.load_modify_of_ne _ _ hm, ho m hm]
    · rw [State.load_modify_of_ne _ _ hm, ho m hm]

theorem Load.tripOff_off (r : Load) : r.tripOff.on = false := by
  simp only [Load.tripOff]
  split <;> rfl

theorem Load.sound_tripOff {r : Load} (hl : r.state ≠ .locked) (h : r.Sound) : r.tripOff.Sound := by
  have ⟨hle, hne⟩ := h.unlocked hl
  have ⟨hdwell, hsettle, hhold, hretry, hclean, hblank, hdiag⟩ := ((Load.calm_switchedOff r).sound h).timers
  simp only [Load.tripOff]
  split
  next hlimit =>
    have hlimit : r.retryLimit < r.retriesUsed + 1 := hlimit
    refine ⟨h.config, ⟨hdwell, hsettle, hhold, by simp [Load.lockedOut], hclean, hblank, hdiag⟩, ?_, nofun⟩
    have heq : r.retriesUsed + 1 = r.retryLimit + 1 := by omega
    exact ⟨heq.le, fun _ => rfl, fun _ => heq⟩
  next hlimit =>
    have hlimit : ¬r.retryLimit < r.retriesUsed + 1 := hlimit
    refine ⟨h.config, ⟨hdwell, hsettle, hhold, ?_, hclean, hblank, hdiag⟩, ⟨?_, ?_, nofun⟩, nofun⟩
    · rintro k ⟨⟩
      exact Nat.min_le_left ..
    · show r.retriesUsed + 1 ≤ r.retryLimit + 1
      omega
    · intro he
      have he : r.retriesUsed + 1 = r.retryLimit + 1 := he
      omega

theorem State.tripRecord_counters : (s.tripRecord n).counters = s.counters := by
  simp only [State.tripRecord]
  split
  · rw [State.raise_counters, State.modify_counters, State.raise_counters, State.modify_counters, s.switchOff_counters]
  · rw [State.modify_counters, State.raise_counters, State.modify_counters, s.switchOff_counters]

theorem Event.tripRecord {s : State} {n : Channel} (ho : (s.load n).on = true) : Event s (s.tripRecord n) := by
  refine .of_calm (fun m => ?_) (s.tripRecord_counters n)
  rw [s.load_tripRecord]
  split
  · next hm =>
    subst hm
    exact .of_off (Load.tripOff_off _) (Load.sound_tripOff (Load.on_unlocked ho))
  · exact .refl _

end

/-! ## Requests (R81 to R87) -/

theorem Event.takeRequestStamp {s : State} {n : Channel} (hv : (s.load n).state ≠ .vacant) :
    Event s (s.takeRequestStamp n) :=
  (Event.modify (.of_state rfl rfl fun h => h.stayed h.config rfl rfl h.timers rfl fun hs => absurd hs hv)).trans
    (.stampIssued _)

/-- The record with the stamp taken. -/
theorem State.load_takeRequestStamp (s : State) (n : Channel) : (s.takeRequestStamp n).load n =
    { s.load n with request := true, requestStamp := some s.engine.seq } := by
  simp [State.takeRequestStamp]

section
variable (s : State) (n : Channel)

theorem Event.arriveOn : Event s (s.arriveOn n) := by
  unfold State.arriveOn
  refine .ite (fun _ => .refuse s) fun _ => ?_
  split
  case h_1 hs =>
    have hl : ((s.takeRequestStamp n).load n).state ≠ .locked := by simp [s.load_takeRequestStamp, hs]
    exact ((Event.takeRequestStamp (by simp [hs])).trans (.enterStandby hl)).trans (.essentialCheck _ n)
  case h_2 hs =>
    refine (Event.takeRequestStamp (by simp [hs])).trans (.modify (Load.calm_backToRunning ?_))
    simp [s.load_takeRequestStamp, Load.on, hs]
  case h_3 hs => exact .takeRequestStamp (by simp [hs])
  case h_4 => exact .refuse s
  all_goals exact .refl s

theorem Event.offWhileOn {s : State} {n : Channel} (ho : (s.load n).on = true) : Event s (s.offWhileOn n) := by
  unfold State.offWhileOn
  exact .ite (fun _ => .modify (Load.calm_deferWith _ _ _ ho)) fun _ => .cutToIdle s n

theorem Event.arriveOff : Event s (s.arriveOff n) := by
  have hask : (s.load n).state ≠ .vacant → Event s (s.modify n fun r => { r with request := false }) := fun hv =>
    .modify (.of_state rfl rfl fun h => h.stayed h.config rfl rfl h.timers rfl fun hs => absurd hs hv)
  have hidle : (s.load n).state ≠ .vacant → (s.load n).state ≠ .locked →
      Event s ((s.modify n fun r => { r with request := false }).modify n Load.toIdle) := fun hv hl =>
    (hask hv).trans (.modify (Load.calm_toIdle (by rwa [s.load_modify_self])))
  simp only [State.arriveOff]
  split
  case h_1 hs => exact (hidle (by simp [hs]) (by simp [hs])).trans (.leaveStandby _ n)
  case h_2 hs | h_3 hs =>
    exact (hask (by simp [hs])).trans (.offWhileOn (by rw [s.load_modify_self]; simp [Load.on, hs]))
  case h_4 hs =>
    refine (hask (by simp [hs])).trans (.modify (.of_state rfl rfl fun h => ?_))
    exact h.stayed h.config rfl rfl h.timers rfl fun hv => by simp [s.load_modify_self, hs] at hv
  case h_5 hs => exact hidle (by simp [hs]) (by simp [hs])
  all_goals exact .refl s

theorem Event.setRequest (on : Bool) : Event s (s.setRequest n on) := by
  unfold State.setRequest
  exact .ite (fun _ => .refl s) fun _ => .ite (fun _ => .arriveOn s n) fun _ => .arriveOff s n

theorem Event.switchEvent (pressed : Bool) : Event s (s.switchEvent n pressed) := by
  simp only [State.switchEvent]
  refine .ite (fun _ => ?_) fun _ => .refl s
  split
  · exact .setRequest s n _
  · exact .refl s

/-! ## Second ticks and commands -/

theorem Event.retryExpires {s : State} {n : Channel} (hl : (s.load n).state ≠ .locked) : Event s (s.retryExpires n) := by
  unfold State.retryExpires
  exact .ite (fun _ => (Event.enterStandby hl).trans (.essentialCheck _ n)) fun _ => .modify (Load.calm_toIdle hl)

theorem Event.retryTick : Event s (s.retryTick n) := by
  simp only [State.retryTick]
  split
  case h_1 k hs hk =>
    refine .ite (fun _ => (Event.retryExpires (by simp [hs])).trans (.sweepWindows _)) fun _ => ?_
    refine .modify (.of_state rfl rfl fun h => ?_)
    obtain ⟨hdwell, hsettle, hhold, hretry, hclean, hblank, hdiag⟩ := h.timers
    refine h.stayed h.config rfl rfl ⟨hdwell, hsettle, hhold, ?_, hclean, hblank, hdiag⟩ rfl fun hv => by simp [hs] at hv
    rintro j ⟨⟩
    exact (Nat.sub_le k 1).trans (hretry k hk)
  case h_2 => exact .refl s

theorem Event.holdLimitTick : Event s (s.holdLimitTick n) := by
  simp only [State.holdLimitTick]
  refine .ite (fun _ => .ite (fun _ => ?_) fun _ => .modify ?_) fun _ => .refl s
  · exact ((Event.raise s .holdExpired).trans (.endHoldWait _ n)).trans (.sweepWindows _)
  · exact Load.calm_waits _ _ _ _ id id (Nat.sub_le ..)

theorem Event.minOnCheck : Event s (s.minOnCheck n) := by
  simp only [State.minOnCheck]
  exact .ite (fun _ => (Event.endMinOnWait s n).trans (.sweepWindows _)) fun _ => .refl s

theorem Load.calm_settleTick (r : Load) : r.Calm r.settleTick := by
  unfold Load.settleTick
  split
  case isTrue hs =>
    have ho : r.on = true := by simp [Load.on, hs]
    refine ⟨fun h => ?_, fun _ => ho, fun _ hc => ⟨hs, ?_⟩⟩
    · obtain ⟨hdwell, hsettle, hhold, hretry, hclean, hblank, hdiag⟩ := h.timers
      split
      · exact h.moved (by simp [hs]) h.config rfl rfl
          ⟨hdwell, Nat.zero_le _, hhold, hretry, Nat.zero_le _, hblank, hdiag⟩ nofun nofun
      · exact h.stayed h.config rfl rfl
          ⟨hdwell, (Nat.sub_le ..).trans hsettle, hhold, hretry, hclean, hblank, hdiag⟩ rfl fun hv => by simp [hs] at hv
    · split at hc <;> exact hc
  case isFalse => exact .refl r

theorem Load.calm_cleanRunTick (r : Load) : r.Calm r.cleanRunTick := by
  unfold Load.cleanRunTick
  split
  case isTrue hs =>
    refine .of_state rfl rfl fun h => ?_
    obtain ⟨hdwell, hsettle, hhold, hretry, -, hblank, hdiag⟩ := h.timers
    obtain ⟨hle, hne⟩ := h.unlocked (by simp [hs])
    refine ⟨h.config, ⟨hdwell, hsettle, hhold, hretry, Nat.min_le_right .., hblank, hdiag⟩, ?_, fun hv => by simp [hs] at hv⟩
    simp only [Load.retriesLaw, hs, reduceCtorEq, iff_false]
    split <;> omega
  case isFalse => exact .refl r

theorem Load.calm_dwellTick (r : Load) : r.Calm r.dwellTick := by
  unfold Load.dwellTick
  split
  case isTrue he =>
    refine .of_state rfl rfl fun h => ?_
    obtain ⟨-, hsettle, hhold, hretry, hclean, hblank, hdiag⟩ := h.timers
    exact h.stayed h.config rfl rfl ⟨Nat.min_le_right .., hsettle, hhold, hretry, hclean, hblank, hdiag⟩ rfl
      fun hv => by simp [Load.enrolled, hv] at he
  case isFalse => exact .refl r

theorem Load.calm_diagTick (faulty : Bool) (r : Load) : r.Calm (r.diagTick faulty) := by
  unfold Load.diagTick
  split
  case isTrue ho =>
    have hv : r.state ≠ .vacant := fun hv => by simp [Load.on, hv] at ho
    split
    · refine .of_state rfl rfl fun h => ?_
      obtain ⟨hdwell, hsettle, hhold, hretry, hclean, hblank, hdiag⟩ := h.timers
      exact h.stayed h.config rfl rfl ⟨hdwell, hsettle, hhold, hretry, hclean, (Nat.sub_le ..).trans hblank, hdiag⟩ rfl
        fun hs => absurd hs hv
    · refine .of_state rfl rfl fun h => ?_
      obtain ⟨hdwell, hsettle, hhold, hretry, hclean, hblank, hdiag⟩ := h.timers
      refine h.stayed h.config rfl rfl ⟨hdwell, hsettle, hhold, hretry, hclean, hblank, ?_⟩ rfl fun hs => absurd hs hv
      dsimp only
      split <;> omega
  case isFalse => exact .refl r

theorem fold_bounds (learned : Option Nat) (sample : Nat) : 1 ≤ fold learned sample ∧ fold learned sample ≤ 65534 := by
  unfold fold clampTo
  omega

theorem Load.calm_closeWindow (p : Published) (r : Load) : r.Calm (r.closeWindow p) := by
  unfold Load.closeWindow
  split
  case h_1 o hw =>
    refine .of_state rfl rfl fun h => ?_
    obtain ⟨hcls, hdeclared, hlearned, hconfig⟩ := h.config
    refine h.stayed ⟨hcls, hdeclared, ?_, hconfig⟩ rfl rfl h.timers rfl fun hs => by simp [h.vacant hs] at hw
    dsimp only
    split
    · rintro d ⟨⟩
      exact fold_bounds _ _
    · exact hlearned
  case h_2 => exact .refl r

theorem Event.clearFault : Event s (s.clearFault n).1 := by
  unfold State.clearFault
  split
  case h_1 hs =>
    refine Event.modify (f := fun r => { r.toIdle with retriesUsed := 0 }) (.of_off rfl fun h => ?_)
    refine ⟨h.config, h.none_retry, ?_, fun hv => by simp [Load.toIdle] at hv⟩
    exact ⟨Nat.zero_le _, fun he => absurd he (by simp), fun hl => by simp [Load.toIdle] at hl⟩
  case h_2 hs =>
    have hcleared : Event s (s.modify n fun r => { r with retriesUsed := 0, retryTimer := none }) := by
      refine .modify (.of_state rfl rfl fun h => ⟨h.config, h.none_retry, ?_, fun hv => by simp [hs] at hv⟩)
      exact ⟨Nat.zero_le _, fun he => absurd he (by simp), fun hl => by simp [hs] at hl⟩
    exact (hcleared.trans (.retryExpires (by simp [hs]))).trans (.sweepWindows _)
  all_goals exact .refl s

theorem Event.forgetDraw : Event s (s.forgetDraw n).1 := by
  unfold State.forgetDraw
  split
  case isTrue he =>
    refine Event.modify (f := fun r => { r with learnedDraw := none }) (.of_state rfl rfl fun h => ?_)
    obtain ⟨hcls, hdeclared, -, hconfig⟩ := h.config
    exact h.stayed ⟨hcls, hdeclared, by simp, hconfig⟩ rfl rfl h.timers rfl fun hv => by simp [Load.enrolled, hv] at he
  case isFalse => exact .refl s

end

/-! ## The fields of a commit (R6, R8, R14) -/

/-- The record after its fields are taken and, where the retry limit is, its retries adjusted (R6, R14). -/
def Load.withFields (setup : Bool) (mask : Option Wide) (w : LoadWords) (r : Load) : Load :=
  if writes mask itemRetryLimit && setup then (r.takeFields setup mask w).adjustRetries else r.takeFields setup mask w

theorem takeInstall_of {α : Type} {P : α → Prop} (setup written : Bool) {held new : α} (hh : P held) (hn : P new) :
    P (takeInstall setup written held new) := by
  unfold takeInstall
  split
  · exact hn
  · exact hh

theorem Load.takeFields_config (setup : Bool) (mask : Option Wide) (w : LoadWords) {r : Load} (h : r.configInRange) :
    (r.takeFields setup mask w).configInRange := by
  obtain ⟨hcls, hdeclared, hlearned, hsettle, hon, hoff, hlimit, hretry, hbase⟩ := h
  have hbyte := w.retryBase.isLt
  refine ⟨hcls, takeInstall_of (P := fun x => 1 ≤ x ∧ x ≤ 65534) _ _ hdeclared ?_, hlearned,
    takeInstall_of (P := fun x => 1 ≤ x ∧ x ≤ 60) _ _ hsettle ?_, takeInstall_of (P := (· ≤ 3600)) _ _ hon ?_,
    takeInstall_of (P := (· ≤ 3600)) _ _ hoff ?_, takeInstall_of (P := fun x => 1 ≤ x ∧ x ≤ 3600) _ _ hlimit ?_,
    takeInstall_of (P := (· ≤ 7)) _ _ hretry ?_, takeInstall_of (P := fun x => 1 ≤ x ∧ x ≤ 255) _ _ hbase ?_⟩ <;>
  simp only [clampDeclared, clampSettle, clampMinTime, clampHoldLimit, clampRetryLimit, clampRetryBase, clampTo] <;> omega

@[simp] theorem Load.withFields_state (setup : Bool) (mask : Option Wide) (w : LoadWords) (r : Load) :
    (r.withFields setup mask w).state = r.state := by
  unfold Load.withFields; split <;> rfl

@[simp] theorem Load.withFields_cls (setup : Bool) (mask : Option Wide) (w : LoadWords) (r : Load) :
    (r.withFields setup mask w).cls = r.cls := by
  unfold Load.withFields; split <;> rfl

theorem Load.sound_withFields (setup : Bool) (mask : Option Wide) (w : LoadWords) {r : Load} (hv : r.state ≠ .vacant)
    (h : r.Sound) : (r.withFields setup mask w).Sound := by
  unfold Load.withFields
  split
  case isTrue ht =>
    refine ⟨Load.takeFields_config setup mask w h.config, h.timers, ?_, fun hs => absurd hs hv⟩
    simp only [Load.retriesLaw, Load.adjustRetries]
    by_cases hl : r.state = .locked
    · simp [Load.takeFields, hl]
    · simp only [Load.takeFields, hl, if_false, iff_false]
      omega
  case isFalse ht =>
    refine h.stayed (Load.takeFields_config setup mask w h.config) ?_ rfl h.timers rfl fun hs => absurd hs hv
    simp only [Load.takeFields, takeInstall, if_neg ht]

/-- The events of a commit that leaves an enrolled record enrolled, one after the other (R12, R78). -/
theorem State.commitEnrolled_eq (s : State) (n : Channel) (mask : Option Wide) (w : LoadWords) :
    s.commitEnrolled n mask w =
      (((((((s.modify n (Load.withFields s.setup.level mask w)).refuseIf ((s.load n).refuses s.setup.level mask w)).moveHold n
        (s.load n).holdLine).commitClass n mask w (s.classRefused n (clampClass w.cls))).commitRequest n mask w).followEntered n
        (s.load n).switchMode).modify n (s.load n).keepLine) := by
  have hfields : ∀ b, (if (writes mask itemRetryLimit && s.setup.level) = true
      then State.modify n Load.adjustRetries ((s.modify n (Load.takeFields s.setup.level mask w)).refuseIf b)
      else (s.modify n (Load.takeFields s.setup.level mask w)).refuseIf b)
        = (s.modify n (Load.withFields s.setup.level mask w)).refuseIf b := by
    intro b
    split
    case isTrue h =>
      have hmerge : ∀ u : State, (u.modify n Load.adjustRetries).refuseIf b = (u.refuseIf b).modify n Load.adjustRetries := by
        intro u; cases b <;> rfl
      have htwo : (s.modify n (Load.takeFields s.setup.level mask w)).modify n Load.adjustRetries
          = s.modify n (Load.withFields s.setup.level mask w) := by
        simp [State.modify, State.load, Load.withFields, h]
      rw [← hmerge, htwo]
    case isFalse h =>
      congr 2
      funext r
      simp only [Load.withFields, if_neg h]
  have hsetup : ∀ b, ((s.modify n (Load.takeFields s.setup.level mask w)).refuseIf b).setup = s.setup := by
    intro b; cases b <;> rfl
  simp only [State.commitEnrolled, hsetup, hfields]

/-! ## The class, the request and the mode of a commit (R10, R21, R78) -/

section
variable {s : State} {n : Channel}

/-- A class taken keeps one STARTING record of class 1 to 7 at most, since the refusal of R21 keeps a second out. -/
theorem Event.modify_cls {new : Nat} (hnew : new ≤ 7) (hv : (s.load n).state ≠ .vacant)
    (hstart : (s.load n).state = .starting → (s.load n).cls = 0 → s.otherStarting n = false) :
    Event s (s.modify n fun r => { r with cls := new }) := by
  have hother : ∀ m, m ≠ n → (s.modify n fun r => { r with cls := new }).load m = s.load m := fun m hm =>
    s.load_modify_of_ne _ hm
  refine ⟨rfl, rfl, fun m h => ?_, id, fun _ => id, id, fun h hl m => ?_, fun h m k hm hcm hk hck => ?_⟩
  · by_cases hm : m = n
    · subst hm
      rw [s.load_modify_self]
      obtain ⟨-, hconfig⟩ := h.config
      exact h.stayed ⟨hnew, hconfig⟩ rfl rfl h.timers rfl fun hs => absurd hs hv
    · rwa [hother m hm]
  · by_cases hm : m = n
    · subst hm
      rw [s.load_modify_self]
      exact h hl m
    · rw [hother m hm]
      exact h hl m
  · have clash : ∀ j, j ≠ n → (s.load n).state = .starting → (s.load j).state = .starting → (s.load j).cls ≠ 0 → False := by
      intro j hj hn hs hc
      by_cases hzero : (s.load n).cls = 0
      · have hsome : s.otherStarting n = true := by
          simp only [State.otherStarting, List.any_eq_true]
          exact ⟨j, mem_channels j, by simp [hj, hs, hc]⟩
        rw [hstart hn hzero] at hsome
        cases hsome
      · exact hj (h j n hs hc hn hzero)
    by_cases hmn : m = n <;> by_cases hkn : k = n
    · exact hmn.trans hkn.symm
    · rw [hmn, s.load_modify_self] at hm
      rw [hother k hkn] at hk hck
      exact (clash k hkn hm hk hck).elim
    · rw [hkn, s.load_modify_self] at hk
      rw [hother m hmn] at hm hcm
      exact (clash m hmn hk hm hcm).elim
    · rw [hother m hmn] at hm hcm
      rw [hother k hkn] at hk hck
      exact h m k hm hcm hk hck

theorem Event.changeClass {new : Nat} (hnew : new ≤ 7) (hv : (s.load n).state ≠ .vacant)
    (hstart : (s.load n).state = .starting → (s.load n).cls = 0 → s.otherStarting n = false) :
    Event s (s.changeClass n new) := by
  have htaken := Event.modify_cls hnew hv hstart
  simp only [State.changeClass]
  split
  · exact ((htaken.trans (.leaveStandby _ n)).trans (.joinStandby _ n)).trans (.essentialCheck _ n)
  case h_2 hs =>
    refine .ite (fun _ => htaken.trans (.modify (Load.calm_backToRunning ?_))) fun _ => htaken
    simp [s.load_modify_self, Load.on, hs]
  all_goals exact htaken

theorem Event.moveHold (before : Option HoldLine) : Event s (s.moveHold n before) := by
  simp only [State.moveHold]
  exact .ite (fun _ => .endHoldWait s n) fun _ => .refl s

theorem Event.commitRequest (mask : Option Wide) (w : LoadWords) : Event s (s.commitRequest n mask w) := by
  unfold State.commitRequest
  split
  · exact .setRequest s n _
  · exact .refl s

theorem Event.followEntered (before : SwitchMode) : Event s (s.followEntered n before) := by
  unfold State.followEntered
  exact .ite (fun _ => .setRequest s n _) fun _ => .refl s

theorem Event.commitClass {mask : Option Wide} {w : LoadWords} {refused : Bool} (hv : (s.load n).state ≠ .vacant)
    (hstart : refused = false → (s.load n).state = .starting → (s.load n).cls = 0 → s.otherStarting n = false) :
    Event s (s.commitClass n mask w refused) := by
  unfold State.commitClass
  split
  case h_1 c hc =>
    refine .ite (fun _ => .refuse s) fun hr => ?_
    have hle : c ≤ 7 := by
      simp only [Load.classWritten] at hc
      split at hc
      · obtain rfl := Option.some.inj hc
        exact Nat.min_le_right ..
      · cases hc
    exact .changeClass hle hv (hstart (by simpa using hr))
  case h_2 => exact .refl s

end

/-- The counts that an output kept on gives back are those of the record before the commit (R144). -/
theorem Event.keepLine {s u : State} (h : Event s u) (n : Channel) : Event s (u.modify n (s.load n).keepLine) := by
  have hcls : ∀ r r' : Load, (r.keepLine r').cls = r'.cls := fun r r' => by unfold Load.keepLine; split <;> rfl
  have hcalm : ∀ m, ((u.modify n (s.load n).keepLine).load m).state = (u.load m).state
      ∧ ((u.modify n (s.load n).keepLine).load m).cls = (u.load m).cls := fun m => by
    rw [u.load_modify]
    split
    · next hm => exact hm ▸ ⟨Load.keepLine_state .., hcls ..⟩
    · exact ⟨rfl, rfl⟩
  refine ⟨h.budget, h.forceOff, fun m hs => ?_, h.spacing, h.holdOff, h.counter, fun hf hl m => ?_, fun ho j k => ?_⟩
  · rw [u.load_modify]
    split
    case isFalse => exact h.record m hs
    case isTrue hm =>
      subst hm
      have hafter := h.record m hs
      obtain ⟨hkeep, -⟩ | hkeep := Load.keepLine_cases (s.load m) (u.load m)
      · rw [hkeep]; exact hafter
      · by_cases hon : (s.load m).on = true ∧ (u.load m).on = true
        · rw [hkeep]
          obtain ⟨hdwell, -, -, -, -, hblank, hdiag⟩ := hs.timers
          obtain ⟨-, hsettle, hhold, hretry, hclean, -, -⟩ := hafter.timers
          exact hafter.stayed hafter.config rfl rfl ⟨hdwell, hsettle, hhold, hretry, hclean, hblank, hdiag⟩ rfl
            fun hv => by simp [Load.on, hv] at hon
        · have hnot : (s.load m).keepLine (u.load m) = u.load m := by
            unfold Load.keepLine
            rw [if_neg (by simpa using hon)]
          rw [hnot]
          exact hafter
  · have := h.forced hf hl m
    simp only [Load.on] at this ⊢
    rwa [(hcalm m).1]
  · simp only [hcalm]
    exact h.one ho j k

theorem State.load_refuseIf (s : State) (b : Bool) (m : Channel) : (s.refuseIf b).load m = s.load m := by cases b <;> rfl

theorem Event.commitEnrolled (s : State) (n : Channel) (mask : Option Wide) (w : LoadWords)
    (hv : (s.load n).state ≠ .vacant) : Event s (s.commitEnrolled n mask w) := by
  rw [s.commitEnrolled_eq]
  set u := (s.modify n (Load.withFields s.setup.level mask w)).refuseIf ((s.load n).refuses s.setup.level mask w) with hu
  have huload : u.load n = (s.load n).withFields s.setup.level mask w := by
    rw [hu, State.load_refuseIf, s.load_modify_self]
  have hfields : Event s u := (Event.modify (.of_state (by simp) (by simp)
    (Load.sound_withFields s.setup.level mask w hv))).trans (.refuseIf _ _)
  set v := u.moveHold n (s.load n).holdLine with hvdef
  have hmoved : v = u ∨ (v.load n).state = .idle ∨ (v.load n).state = .standby ∨ (v.load n).state = .deferred := by
    obtain ⟨hcase, -⟩ | ⟨hcase, hdeferred, -⟩ := u.moveHold_cases n (s.load n).holdLine
    · exact .inl hcase
    · refine .inr ?_
      rw [hvdef, hcase, State.load_endHoldWait_self hdeferred]
      split
      · exact .inr (.inr hdeferred)
      · obtain hc | hc := Load.cutByCause_state u.forceOff.level (u.load n)
        · exact .inl hc
        · exact .inr (.inl hc)
  have hvstate : (v.load n).state ≠ .vacant := by
    obtain hcase | hcase | hcase | hcase := hmoved
    · rw [hcase, huload, Load.withFields_state]
      exact hv
    all_goals simp [hcase]
  have hothers : ∀ m, m ≠ n → v.load m = s.load m := fun m hm => by
    refine State.load_of_others ?_ hm
    rw [hvdef, hu]
    simp
  have hstart : s.classRefused n (clampClass w.cls) = false → (v.load n).state = .starting → (v.load n).cls = 0 →
      v.otherStarting n = false := by
    intro hr hs hc
    obtain hcase | hcase | hcase | hcase := hmoved
    · rw [hcase, huload, Load.withFields_state] at hs
      rw [hcase, huload, Load.withFields_cls] at hc
      have hsame : v.otherStarting n = s.otherStarting n := by
        simp only [State.otherStarting]
        congr 1
        funext m
        by_cases hm : m = n
        · simp [hm]
        · rw [hothers m hm]
      rw [hsame]
      have hpassed : s.setup.level = true ∧ s.otherStarting n = false := by simpa [State.classRefused, hs, hc] using hr
      exact hpassed.2
    all_goals simp [hcase] at hs
  exact ((((hfields.trans (.moveHold _)).trans (.commitClass hvstate hstart)).trans (.commitRequest mask w)).trans
    (.followEntered _)).keepLine n

theorem Load.sound_enrolledWith (mask : Option Wide) (w : LoadWords) {r : Load} (hv : r.state = .vacant) (h : r.Sound) :
    (r.enrolledWith mask w).Sound := by
  obtain rfl := h.vacant hv
  obtain ⟨-, hconfig⟩ := Load.takeFields_config true mask w Load.sound_default.config
  refine ⟨⟨?_, hconfig⟩, Load.sound_default.timers, ?_, fun hs => by simp [Load.enrolledWith] at hs⟩
  · simp only [Load.enrolledWith]
    split
    · exact Nat.min_le_right ..
    · decide
  · exact ⟨Nat.zero_le _, fun he => absurd he (by simp [Load.enrolledWith, Load.takeFields]),
      fun hs => by simp [Load.enrolledWith] at hs⟩

theorem Event.commitVacant (s : State) (n : Channel) (mask : Option Wide) (w : LoadWords)
    (hv : (s.load n).state = .vacant) : Event s (s.commitVacant n mask w) := by
  unfold State.commitVacant
  refine .ite (fun _ => (Event.modify ?_).trans (.refuseIf _ _)) fun _ => .refuseIf s _
  exact .of_off rfl (Load.sound_enrolledWith mask w hv)

theorem Event.retire (s : State) (n : Channel) : Event s (s.retire n) :=
  ((Event.leaveRun s n).trans (.leaveStandby _ n)).trans (.modify (.of_off rfl fun _ => Load.sound_default))

/-- A commit of a load record (R12). -/
theorem Event.commitLoad (s : State) (n : Channel) (mask : Option Wide) (w : LoadWords) : Event s (s.commitLoad n mask w) := by
  refine Event.trans ?_ (.sweepWindows _)
  refine .ite (fun he => ?_) fun he => .commitVacant s n mask w (by simpa [Load.enrolled] using he)
  unfold State.commitHeld
  refine .ite (fun _ => (Event.retire s n).trans (.refuseIf _ _)) fun _ => ?_
  exact .commitEnrolled s n mask w (by simpa [Load.enrolled] using he)

/-! ## The evaluation (R107 to R122) -/

theorem State.anyStarting_iff {s : State} : s.anyStarting = true ↔ ∃ n : Channel, (s.load n).state = .starting := by
  simp [State.anyStarting, mem_channels]

theorem Walk.event_candidate (w : Walk) (n : Channel) : Event w.part (w.candidate n).part := by
  unfold Walk.candidate
  split
  case isTrue h =>
    split
    · exact .budgetCut w.part n
    · refine Event.modify (Load.calm_deferWith _ _ _ ?_)
      simp only [Bool.and_eq_true, Load.walkable] at h
      simp only [Load.on, Bool.or_eq_true] at h ⊢
      tauto
  case isFalse => exact .refl _

theorem Walk.event_depletedRecord (w : Walk) (n : Channel) : Event w.part (w.depletedRecord n).part := by
  have hwait : Event w.part (w.part.modify n fun r => { r with waitMinOn := false }) :=
    .modify (Load.calm_waits _ _ false _ id nofun le_rfl)
  simp only [Walk.depletedRecord]
  split
  case isTrue h =>
    split
    · exact hwait
    · exact hwait.trans (.budgetCut _ n)
  case isFalse => exact .refl _

theorem Event.foldl_walk {f : Walk → Channel → Walk} (h : ∀ w n, Event w.part (f w n).part) (l : List Channel) (w : Walk) :
    Event w.part (l.foldl f w).part := by
  induction l generalizing w with
  | nil => exact .refl _
  | cons n l ih => exact (h w n).trans (ih _)

theorem Walk.event_deficitWalk (w : Walk) : Event w.part w.deficitWalk.part := by
  unfold Walk.deficitWalk
  split
  · exact .foldl_walk Walk.event_candidate _ w
  · exact .refl _

theorem Walk.event_depletedStage (w : Walk) : Event w.part w.depletedStage.part := by
  unfold Walk.depletedStage
  split
  · exact .foldl_walk Walk.event_depletedRecord _ w
  · exact .refl _

/-- The restore candidate is eligible (R119). -/
theorem State.restoreCandidate_eligible {s : State} {n : Channel} (h : s.restoreCandidate = some n) :
    (s.load n).cls ≠ 0 ∧ s.eligible (s.load n) = true := by
  have := List.find?_some h
  simpa using this

theorem Walk.event_restore (w : Walk) : Event w.part w.restore := by
  unfold Walk.restore
  split
  case h_1 n hn =>
    refine .ite (fun h => ?_) fun _ => .refl _
    obtain ⟨-, he⟩ := State.restoreCandidate_eligible hn
    refine .start (State.eligible_released he) (.inr fun m hm => ?_)
    have hany : w.part.anyStarting = true := State.anyStarting_iff.mpr ⟨m, hm⟩
    simp [Walk.blocked, hany] at h
  case h_2 => exact .refl _

theorem Event.refreshReasons (s : State) (candidate : Option Channel) (fits : Bool) :
    Event s (s.refreshReasons candidate fits) :=
  .mapLoads fun m => by
    split
    case isTrue hs =>
      exact .of_state rfl rfl fun h => h.stayed h.config rfl rfl h.timers rfl fun hv => by simp [hs] at hv
    case isFalse => exact .refl _

theorem Event.setLevel (s : State) : Event s s.setLevel := by
  simp only [State.setLevel]
  split <;> exact .of_loads rfl rfl

theorem Event.close (s : State) : Event s s.close where
  budget := rfl
  forceOff := rfl
  record _ := id
  spacing _ := Nat.min_le_right ..
  holdOff _ h := (Nat.sub_le ..).trans h
  counter := id
  forced := id
  one := id

theorem Event.evaluate (s : State) : Event s s.evaluate := by
  have hform : Event s s.formAllowance := .of_loads rfl rfl
  exact ((((((hform.trans (Walk.event_deficitWalk ⟨s.formAllowance, _, false⟩)).trans
    (Walk.event_depletedStage _)).trans
    (Walk.event_restore _)).trans (.refreshReasons _ _ _)).trans (.setLevel _)).trans (.close _)).trans (.sweepWindows _)

/-! ## The list rebuild of stage 3 (R104, R195) -/

theorem Event.rebuildEntry (s : State) (n : Channel)
    (hs : (s.load n).request = true → (s.load n).state ≠ .locked ∧ (s.load n).state ≠ .vacant) :
    Event s (s.rebuildEntry n) := by
  unfold State.rebuildEntry
  refine .ite (fun hr => ?_) fun _ => .refl s
  obtain ⟨hl, hv⟩ := hs hr
  refine Event.trans (Event.trans (.modify ?_) (.stampIssued _)) (.enterStandby ?_)
  · exact .of_state rfl rfl fun h => h.stayed h.config rfl rfl h.timers rfl fun hs => absurd hs hv
  · rwa [State.load_stampIssued, s.load_modify_self]

/-- The rebuild of one record makes it no other than IDLE or STANDBY, and leaves the others. -/
theorem State.load_rebuildEntry (s : State) (n m : Channel) :
    (s.rebuildEntry n).load m = if m = n ∧ (s.load n).request = true then
        { s.load n with
          requestStamp := some s.engine.seq, state := .standby, reason := .standby (s.entryReason (s.load n))
          retryTimer := none }
      else s.load m := by
  unfold State.rebuildEntry
  by_cases hr : (s.load n).request = true
  · rw [if_pos hr, State.load_enterStandby]
    by_cases hm : m = n
    · rw [if_pos hm, if_pos ⟨hm, hr⟩, State.load_stampIssued, s.load_modify_self]
      simp only [State.entryReason, State.stampIssued_forceOff, State.modify_forceOff]
    · rw [if_neg hm, if_neg (fun h => hm h.1), State.load_stampIssued, s.load_modify_of_ne _ hm]
  · rw [if_neg hr, if_neg (fun h => hr h.2)]

theorem Event.rebuildEntries (l : List Channel) (s : State)
    (hs : ∀ n, (s.load n).request = true → (s.load n).state ≠ .locked ∧ (s.load n).state ≠ .vacant) :
    Event s (l.foldl (fun (t : State) n => t.rebuildEntry n) s) := by
  induction l generalizing s with
  | nil => exact .refl s
  | cons n l ih =>
    refine (Event.rebuildEntry s n (hs n)).trans (ih _ fun m => ?_)
    rw [s.load_rebuildEntry]
    split
    · exact fun _ => ⟨by simp, by simp⟩
    · exact hs m

theorem Load.rebuilt_request {w : ChannelWords} {pressed : Bool} (h : (Load.rebuilt w pressed).request = true) :
    (Load.rebuilt w pressed).state = .idle := by
  unfold Load.rebuilt at h ⊢
  split
  · rfl
  · next he =>
    rw [if_neg he] at h
    cases h

/-- The record rebuilt from a good channel part is sound (R25, R194). -/
theorem Load.sound_rebuilt {w : ChannelWords} (hg : channelGood w = true) (pressed : Bool) :
    (Load.rebuilt w pressed).Sound := by
  simp only [channelGood, clampClass, clampDeclared, clampSettle, clampMinTime, clampHoldLimit, clampRetryLimit,
    clampRetryBase, clampTo, Bool.and_eq_true, beq_iff_eq, bne_iff_ne] at hg
  obtain ⟨⟨⟨⟨⟨⟨⟨⟨⟨⟨⟨⟨-, hcls⟩, hdeclared⟩, hlearned⟩, hsettle⟩, -⟩, -⟩, hon⟩, hoff⟩, hhold⟩, hlimit⟩, hbase⟩, -⟩ := hg
  have hbyte := w.retryBase.isLt
  have hhalf := w.learnedDraw.isLt
  unfold Load.rebuilt
  split
  case isFalse => exact Load.sound_default
  case isTrue =>
    refine ⟨⟨?_, ?_, ?_, ?_, ?_, ?_, ?_, ?_, ?_⟩, Load.sound_default.timers, ⟨Nat.zero_le _, nofun, nofun⟩, nofun⟩
    case refine_3 =>
      rintro d hd
      unfold drawOfWord at hd
      split at hd
      · cases hd
      · next hne =>
        obtain rfl := Option.some.inj hd
        have hzero : w.learnedDraw.toNat ≠ 0 := fun h => hlearned (BitVec.eq_of_toNat_eq h)
        have hmax : w.learnedDraw.toNat ≠ 65535 := fun h => hne (BitVec.eq_of_toNat_eq h)
        omega
    all_goals dsimp only; omega

theorem usedImage_channelsGood (w : StoreWords) (n : Channel) : channelGood (usedImage w).channels[n] = true := by
  unfold usedImage
  split
  case isTrue h =>
    have hall : w.channels.toList.all channelGood = true := by
      simp only [imageGood, Bool.and_eq_true] at h
      exact h.2
    rw [List.all_eq_true] at hall
    exact hall _ (by simp)
  case isFalse => exact (by decide : ∀ n : Channel, channelGood factoryImage.channels[n] = true) n

/-! ## Steps -/

theorem Event.pending (s : State) (q : List Instr) : Event s { s with pending := q } := .of_loads rfl rfl

/-- Stage 1 leaves a sound record sound, and no output on (R193). -/
theorem Load.calm_stage1 (r : Load) : r.Calm r.stage1 := by
  unfold Load.stage1
  split
  case isTrue he =>
    refine .of_off rfl fun h => ?_
    obtain ⟨hdwell, -⟩ := h.timers
    exact ⟨h.config, ⟨hdwell, Nat.zero_le _, Nat.zero_le _, by simp, Nat.zero_le _, Nat.zero_le _, Nat.zero_le _⟩,
      ⟨Nat.zero_le _, nofun, nofun⟩, nofun⟩
  case isFalse => exact .refl r

/-- The records sound, and the channel part kept for stage 3 good (R155, R194). -/
def State.AllSound (s : State) : Prop :=
  (∀ n, (s.load n).Sound) ∧ ∀ kept ∈ s.startup.kept, ∀ n : Channel, channelGood kept[n] = true

theorem State.allSound_iff {s : State} : s.AllSound ↔ s.retriesLaw ∧ s.recordsInRange := by
  simp only [State.AllSound, State.retriesLaw, State.recordsInRange, Load.sound_iff]
  constructor
  · rintro ⟨h, hk⟩
    exact ⟨fun n => (h n).2, fun n => (h n).1, hk⟩
  · rintro ⟨h, hr, hk⟩
    exact ⟨fun n => ⟨hr n, h n⟩, hk⟩

/-- A command that begins a start-up or takes a stage of it, or that changes the budget profile or FORCE_OFF. -/
def Resetting : Instr → Prop
  | .powerOn _ _ | .lossOfPower _ | .startupStage2 | .startupStage3 | .restart _ | .saveCompletion _ => True
  | .budgetProfileCommit _ | .forceOffAssertion | .forceOffRelease | .lineTick _ => True
  | _ => False

/-- An event that leaves the start-up state as it was. -/
def Ordinary (s t : State) : Prop := Event s t ∧ t.startup = s.startup

section
variable {s t u : State}

theorem Ordinary.refl (s : State) : Ordinary s s := ⟨.refl s, rfl⟩

theorem Ordinary.of_whenPowered (h : whenPowered s u = .next t) (hu : Ordinary s u) : Ordinary s t :=
  Machine.of_whenPowered (I := Ordinary s) h (.refl s) fun _ => hu

theorem Ordinary.of_whenAnswering (h : whenAnswering s u = .next t) (hu : Ordinary s u) : Ordinary s t :=
  Machine.of_whenAnswering (I := Ordinary s) h (.refl s) fun _ _ => hu

theorem Ordinary.of_ite {v : State} {p : Prop} [Decidable p] (hu : Ordinary s u) (hv : Ordinary s v) :
    Ordinary s (if p then u else v) := by
  split
  · exact hu
  · exact hv

theorem Ordinary.of_same (hl : u.loads = s.loads) (he : u.counters = s.counters) (hs : u.startup = s.startup) :
    Ordinary s u := ⟨.of_loads hl he, hs⟩

theorem Ordinary.trans (h : Ordinary s t) (h' : Ordinary t u) : Ordinary s u := ⟨h.1.trans h'.1, h'.2.trans h.2⟩

theorem Ordinary.of_apart (h : Event s u) (ha : u.apart = s.apart) : Ordinary s u := ⟨h, State.startup_of_apart ha⟩

theorem Ordinary.of_takeWork {w : TickWork} {f : State → State} (hf : ∀ u, Ordinary u (f u)) :
    Ordinary s (s.takeWork w f) :=
  .of_ite (.trans (t := s.workTaken w) (.of_same rfl rfl rfl) (hf _)) (.refl s)

theorem Ordinary.of_commit {space : Space} {index : Nat} {effect : Option Wide → State → State}
    (h : whenAnswering s (s.maskedCommit space index effect) = .next t)
    (he : ∀ mask u, Ordinary u (effect mask u)) : Ordinary s t := by
  let v : State := { s with port := s.port.reach space index }
  refine .of_whenAnswering h (Ordinary.trans (t := effect s.port.mask v) ?_ (.of_same rfl rfl rfl))
  exact .trans (t := v) (.of_same rfl rfl rfl) (he _ _)

theorem Ordinary.of_command {i : Nat} {channel : Byte} {effect : State → State × CommandResult}
    (h : whenAnswering s (s.command i channel effect) = .next t)
    (he : ∀ u, Ordinary u (effect u).1) : Ordinary s t := by
  let v : State := { s with port := s.port.reach .command i }
  refine .of_whenAnswering h (Ordinary.trans (t := (effect v).1) ?_ (.of_same rfl rfl rfl))
  exact .trans (t := v) (.of_same rfl rfl rfl) (he _)

end

theorem Load.calm_seePulse (d : Direction) (r : Load) : r.Calm { r with window := r.window.seePulse d } := by
  refine .of_state rfl rfl fun h => (Load.calm_window _ r fun hv => ?_).sound h
  rw [h.vacant hv]
  rfl

theorem Ordinary.refuseIf (u : State) (b : Bool) : Ordinary u (u.refuseIf b) := by
  cases b <;> exact .of_same rfl rfl rfl

theorem Ordinary.commitMeter (mask : Option Wide) (w : MeterWords) (u : State) : Ordinary u (u.commitMeter mask w) := by
  simp only [State.commitMeter]
  exact .of_ite (.of_same rfl rfl rfl) (.refuseIf u _)

theorem Ordinary.commitRest (mask : Option Wide) (w : Vector PointWords 8) (u : State) : Ordinary u (u.commitRest mask w) := by
  simp only [State.commitRest]
  exact .of_ite (.of_ite (.of_same rfl rfl rfl) (.of_same rfl rfl rfl)) (.refuseIf u _)

/-- Every other command is an event of the records, if it acts on them at all. -/
theorem exec_ordinary {c : Instr} {s t : State} (h : exec c s = .next t) (hc : ¬Resetting c) : Ordinary s t := by
  cases c with
  | powerOn | lossOfPower | startupStage2 | startupStage3 | restart | saveCompletion | budgetProfileCommit
  | forceOffAssertion | forceOffRelease | lineTick => exact absurd trivial hc
  | captureTick => exact .of_whenPowered h (.of_same rfl rfl rfl)
  | quietExpiry | fullSync | setupLevelChange | holdAssertion =>
    exact .of_whenPowered h (.of_ite (.of_same rfl rfl rfl) (.refl s))
  | restReAnchor =>
    refine .of_whenPowered h (.of_ite ?_ (.refl s))
    simp only [State.restReAnchor]
    exact .of_ite (.of_same rfl rfl rfl) (.of_same rfl rfl rfl)
  | pulse d =>
    refine .of_whenPowered h (.of_ite ?_ (.refl s))
    let u : State :=
      { s with sense := s.sense.takePulse (directionOf d), reserve := s.reserve.takePulse s.meter (directionOf d) }
    have hwindows : Event u (u.mapLoads fun _ r => { r with window := r.window.seePulse (directionOf d) }) :=
      .mapLoads fun _ => Load.calm_seePulse _ _
    exact .trans (t := u) (.of_same rfl rfl rfl) ⟨hwindows, rfl⟩
  | sampleTick code =>
    refine .of_whenPowered h (.of_takeWork fun u => ?_)
    let b := u.sense.sample u.meter code
    let v : State := { u with sense := b, reserve := u.reserve.test u.meter b.pub }
    have hwindows : Event v (v.mapLoads fun _ r => r.closeWindow b.pub) := .mapLoads fun _ => Load.calm_closeWindow _ _
    exact .trans (t := v) (.of_same rfl rfl rfl) ⟨hwindows, rfl⟩
  | evaluation =>
    refine .of_whenPowered h (.of_takeWork fun u => .of_ite ⟨.evaluate u, ?_⟩ (.refl u))
    exact (State.startup_of_apart u.evaluate_apart).trans rfl
  | dwellIncrement => exact .of_whenPowered h (.of_takeWork fun u => ⟨.mapLoads fun _ => Load.calm_dwellTick _, rfl⟩)
  | settleEnd n => exact .of_whenPowered h (.of_takeWork fun u => ⟨.modify (Load.calm_settleTick _), rfl⟩)
  | cleanRun n => exact .of_whenPowered h (.of_takeWork fun u => ⟨.modify (Load.calm_cleanRunTick _), rfl⟩)
  | minOffExpiry =>
    exact .of_whenPowered h (.of_takeWork fun u =>
      .of_ite (.of_apart ((Event.essentialSweep u).trans (.sweepWindows _)) (by simp)) (.refl u))
  | holdLimitExpiry n =>
    exact .of_whenPowered h (.of_takeWork fun u => .of_apart (.holdLimitTick u n) (u.holdLimitTick_apart n))
  | minOnReached n => exact .of_whenPowered h (.of_takeWork fun u => .of_apart (.minOnCheck u n) (u.minOnCheck_apart n))
  | retryExpiry n => exact .of_whenPowered h (.of_takeWork fun u => .of_apart (.retryTick u n) (u.retryTick_apart n))
  | stableLevelChange n =>
    refine .of_whenPowered h (.of_ite ?_ (.refl s))
    refine .trans (t := s.switchToggled n) (.of_same rfl rfl rfl) (.of_apart ?_ (by simp))
    exact (Event.switchEvent _ n _).trans (.sweepWindows _)
  | holdRelease l =>
    refine .of_whenPowered h (.of_ite ?_ (.refl s))
    refine .trans (t := s.holdToggled l) (.of_same rfl rfl rfl) (.of_apart ?_ (by simp))
    exact (Event.releaseHold _ l).trans (.sweepWindows _)
  | trip n =>
    refine Machine.of_whenPowered (I := Ordinary s) h (.refl s) fun _ =>
      Machine.of_ite (I := Ordinary s) (.refl s) fun hon => ?_
    rw [Bool.and_eq_true] at hon
    exact .of_apart ((Event.tripRecord hon.1).trans (.sweepWindows _)) (by simp)
  | pointerSet =>
    refine .of_whenAnswering h ?_
    split
    · exact .of_ite (.of_same rfl rfl rfl) (.refl s)
    · exact .refl s
  | readTransaction =>
    refine .of_whenAnswering h (.of_ite ?_ (.refl s))
    rw [State.readBytes_eq]
    exact .of_same rfl rfl rfl
  | statusSnapshot =>
    refine .of_whenAnswering h ?_
    rw [State.readByte_eq]
    exact .of_same rfl rfl rfl
  | partialWrite => exact .of_whenAnswering h (.of_ite (.of_same rfl rfl rfl) (.refl s))
  | listsWrite | statusCommit | setChangeMask => exact .of_whenAnswering h (.of_same rfl rfl rfl)
  | loadCommit n => exact .of_commit h fun mask u => .of_apart (.commitLoad u n mask _) (u.commitLoad_apart n mask _)
  | meterProfileCommit => exact .of_commit h fun mask u => .commitMeter mask _ u
  | restTableCommit => exact .of_commit h fun mask u => .commitRest mask _ u
  | setReserve | clearAnchor => exact .of_command h fun u => .of_same rfl rfl rfl
  | saveProfile =>
    refine .of_command h fun u => ?_
    unfold State.saveProfile
    split
    · exact .of_same rfl rfl rfl
    · exact .refl u
  | clearFault =>
    refine .of_command h fun u => ?_
    split
    · exact .of_apart (.clearFault u _) (u.clearFault_apart _)
    · exact .refl u
  | forgetDraw =>
    refine .of_command h fun u => ?_
    split
    · exact .of_apart (.forgetDraw u _) (u.forgetDraw_apart _)
    · exact .refl u

end Sys2Proof.Machine
end

section
/-! PROOFS. The laws of single records that every step keeps (R4, R11, R155). -/

namespace Sys2Proof.Machine

theorem Event.allSound {s t : State} (h : Event s t) (hk : t.startup.kept = s.startup.kept) (hs : s.AllSound) :
    t.AllSound := ⟨fun n => h.record n (hs.1 n), by rw [hk]; exact hs.2⟩

theorem State.allSound_poweredOn (address : BitVec 7) (image : StoreWords) (q : List Instr) :
    (State.poweredOn address image q).AllSound :=
  ⟨fun n => by simpa [State.load, State.poweredOn] using Load.sound_default, nofun⟩

theorem State.load_beginRestart (s : State) (n : Channel) : s.beginRestart.load n = (s.load n).stage1 :=
  s.load_mapLoads n _

theorem State.allSound_beginRestart {s : State} (hs : ∀ n, (s.load n).Sound) : s.beginRestart.AllSound :=
  ⟨fun n => by rw [s.load_beginRestart]; exact (Load.calm_stage1 _).sound (hs n), nofun⟩

theorem State.completeSave_allSound {s : State} (image found : StoreWords) (hs : s.AllSound) :
    (s.completeSave image found).AllSound := by
  have hsame : ∀ u : State, u.loads = s.loads → ∀ n, (u.load n).Sound := fun u hu n => by
    rw [State.load, hu]; exact hs.1 n
  simp only [State.completeSave]
  split
  · refine State.allSound_beginRestart (hsame _ ?_)
    split <;> rfl
  · split <;> exact hs

theorem State.stage2_allSound {s : State} (hs : s.AllSound) : s.stage2.AllSound := by
  have hkept : s.stage2.startup.kept = some (usedImage s.store.image).channels := rfl
  refine ⟨fun n => ?_, fun kept hk n => ?_⟩
  · have hload : s.stage2.loads = s.loads := by
      simp only [State.stage2]
      split <;> rfl
    rw [State.load, hload]
    exact hs.1 n
  · rw [hkept] at hk
    obtain rfl := Option.some.inj hk
    exact usedImage_channelsGood _ n

/-- The Load Table of stage 3 before its lists are rebuilt (R25, R104). -/
def State.tableRebuilt (kept : Vector ChannelWords 12) (s : State) : State :=
  { s with
    loads := Vector.ofFn fun n => Load.rebuilt kept[n] s.switches[n].pressed
    engine := { s.engine with seq := 0, exhausted := false, runList := [], standbyList := [] } }

/-- The requested records in STANDBY, in channel order (R104). -/
def State.entriesRebuilt (kept : Vector ChannelWords 12) (s : State) : State :=
  channels.foldl (fun (t : State) n => t.rebuildEntry n) (s.tableRebuilt kept)

theorem State.load_tableRebuilt (s : State) (kept : Vector ChannelWords 12) (n : Channel) :
    (s.tableRebuilt kept).load n = Load.rebuilt kept[n] s.switches[n].pressed := by
  simp [State.tableRebuilt, State.load]

/-- Stage 3: the table, the entries in STANDBY, the essentials' starts, and the counters (R195). -/
theorem State.stage3_eq (s : State) (kept : Vector ChannelWords 12) :
    s.stage3 kept =
      ({ (s.entriesRebuilt kept).essentialSweep with
        engine := { (s.entriesRebuilt kept).essentialSweep.engine with spacing := 255, holdOff := 0 }
        startup := ⟨true, (s.entriesRebuilt kept).essentialSweep.startup.ticks, none⟩ }).sweepWindows := by
  simp only [State.stage3, State.rebuildLists, State.entriesRebuilt, State.tableRebuilt]

theorem State.load_stage3 (s : State) (kept : Vector ChannelWords 12) (n : Channel) :
    (s.stage3 kept).load n = (s.entriesRebuilt kept).essentialSweep.sweepWindows.load n := by
  rw [s.stage3_eq]
  generalize (s.entriesRebuilt kept).essentialSweep = u
  rfl

theorem Event.entriesRebuilt (s : State) (kept : Vector ChannelWords 12) :
    Event (s.tableRebuilt kept) (s.entriesRebuilt kept) :=
  .rebuildEntries _ _ fun n hr => by
    rw [s.load_tableRebuilt] at hr ⊢
    rw [Load.rebuilt_request hr]
    exact ⟨nofun, nofun⟩

/-- The records that stage 3 rebuilds from a good channel part are sound, before and after the list rebuild (R104, R195). -/
theorem State.stage3_allSound {s : State} {kept : Vector ChannelWords 12}
    (hg : ∀ n : Channel, channelGood kept[n] = true) : (s.stage3 kept).AllSound := by
  refine ⟨fun n => ?_, nofun⟩
  rw [s.load_stage3]
  refine (((Event.entriesRebuilt s kept).trans (.essentialSweep _)).trans (.sweepWindows _)).record n ?_
  rw [s.load_tableRebuilt]
  exact Load.sound_rebuilt (hg n) _

theorem State.allSound_of_same {s t : State} (hs : s.AllSound) (hl : t.loads = s.loads) (hk : t.startup = s.startup) :
    t.AllSound := by
  refine ⟨fun n => ?_, hk ▸ hs.2⟩
  rw [State.load, hl]
  exact hs.1 n

theorem State.refuseIf_loads (s : State) (b : Bool) : (s.refuseIf b).loads = s.loads := by cases b <;> rfl

theorem State.commitBudget_loads (mask : Option Wide) (w : BudgetWords) (s : State) :
    (s.commitBudget mask w).loads = s.loads := by
  simp only [State.commitBudget]
  split
  · rfl
  · exact s.refuseIf_loads _

theorem State.commitBudget_startup (mask : Option Wide) (w : BudgetWords) (s : State) :
    (s.commitBudget mask w).startup = s.startup := by
  simp only [State.commitBudget]
  split
  · rfl
  · exact State.startup_of_apart (s.refuseIf_apart _)

/-- An assertion of FORCE_OFF is an event of the part whose level it has taken (R146). -/
theorem Event.forceOffAsserted (s : State) : Event { s with forceOff := ⟨true, 0⟩ } s.forceOffAsserted := by
  have hclosed : ∀ u : State, Event u (u.mapLoads fun _ r => { r with window := .closed }) := fun u =>
    .mapLoads fun m =>
      ⟨fun h => (Load.calm_window .closed _ fun hv => by rw [h.vacant hv]).sound h, id, fun hs hc => ⟨hs, hc⟩⟩
  have hrecords := Event.foldl (fun t n => Event.forceOffRecord t n) channels { s with forceOff := ⟨true, 0⟩ }
  unfold State.forceOffAsserted
  exact (hrecords.trans (hclosed _)).trans (.raise _ _)

theorem State.load_lineTick (s : State) (l : LineLevels) (n : Channel) :
    (s.lineTick l).load n = (s.load n).diagTick (lineFaulty l n) := State.load_mapLoads _ n _

theorem exec_allSound {c : Instr} {s t : State} (hs : s.AllSound) (h : exec c s = .next t) : t.AllSound := by
  by_cases hc : Resetting c
  case neg =>
    obtain ⟨he, hstartup⟩ := exec_ordinary h hc
    exact he.allSound (congrArg Startup.kept hstartup) hs
  cases c <;> try exact hc.elim
  case powerOn => exact Host.Outcome.next.inj h ▸ State.allSound_poweredOn ..
  case lossOfPower cut =>
    exact of_whenPowered h hs fun _ =>
      State.allSound_poweredOn s.port.address (storeAfterLoss s.store.saving s.store.image cut) s.pending
  case startupStage2 => exact of_whenPowered h hs fun _ => of_ite hs fun _ => State.stage2_allSound hs
  case startupStage3 =>
    refine of_whenPowered h hs fun _ => ?_
    split
    next kept hk => exact of_ite hs fun _ => State.stage3_allSound (hs.2 kept hk)
    next => exact hs
  case restart =>
    refine of_whenAnswering h hs fun _ _ => ?_
    split
    · exact State.allSound_beginRestart hs.1
    · exact hs
  case saveCompletion found =>
    refine of_whenPowered h hs fun _ => ?_
    split
    · exact State.completeSave_allSound _ found hs
    · exact hs
  case budgetProfileCommit =>
    refine of_whenAnswering h hs fun _ _ => ?_
    exact State.allSound_of_same hs (State.commitBudget_loads ..) (State.commitBudget_startup ..)
  case forceOffAssertion =>
    exact of_whenPowered h hs fun _ => of_ite hs fun _ => (Event.forceOffAsserted s).allSound
      (congrArg Startup.kept (State.startup_of_apart s.forceOffAsserted_apart)) hs
  case forceOffRelease =>
    exact of_whenPowered h hs fun _ => of_ite hs fun _ =>
      ((Event.essentialSweep _).trans (.sweepWindows _)).allSound (s := { s with forceOff := ⟨false, 0⟩ })
        (congrArg Startup.kept (State.startup_of_apart (by simp))) hs
  case lineTick l =>
    refine of_whenPowered h hs fun _ => of_takeWork hs fun _ => ⟨fun n => ?_, hs.2⟩
    rw [State.load_lineTick]
    exact (Load.calm_diagTick _ _).sound (hs.1 n)

/-- Settles O57: every event keeps each record sound; start-up makes records that are, from a channel part that stage 2 has
checked. -/
theorem retriesAndFieldsStayInRange : Obligations.RetriesAndFieldsStayInRange := by
  intro s t hr hi h
  have hs := State.allSound_iff.mpr ⟨hr, hi⟩
  exact State.allSound_iff.mp (step_keeps (I := State.AllSound) (fun _ _ h => h) (fun _ _ _ => exec_allSound) hs h)

end Sys2Proof.Machine
end

section
/-! PROOFS. How a command answers (log 1, log 2, log 11, log 28), the timebase and the work of its ticks (R2), power-on
(R193) and the part at reset. -/

namespace Sys2Proof.Machine

/-! ## Answering -/

theorem whenPowered_of {s : State} (hp : s.powered = true) (u : State) : whenPowered s u = .next u := by
  rw [whenPowered, if_pos hp]

theorem whenPowered_unpowered {s : State} (hp : s.powered = false) (u : State) : whenPowered s u = .next s := by
  rw [whenPowered, if_neg (by simp [hp])]

theorem whenAnswering_of {s : State} (hp : s.powered = true) (hr : s.startup.ready = true) (u : State) :
    whenAnswering s u = .next u := by rw [whenAnswering, if_pos (by simp [hp, hr])]

theorem whenAnswering_unpowered {s : State} (hp : s.powered = false) (u : State) : whenAnswering s u = .next s := by
  rw [whenAnswering, if_neg (by simp [hp])]

theorem whenAnswering_loading {s : State} (hr : s.startup.ready = false) (u : State) :
    whenAnswering s u = .next s := by rw [whenAnswering, if_neg (by simp [hr])]

theorem exec_answers (c : Instr) (s : State) : ∃ t : State, exec c s = .next t := by
  cases c <;> exact ⟨_, rfl⟩

/-- Settles O1: the definition of the step, command by command of the queue. -/
theorem stepTakesFrontCommand : Obligations.StepTakesFrontCommand := by
  refine ⟨fun c rest s => rfl, fun s h => ?_⟩
  unfold step
  rw [h]

/-- Settles O3: every command of the port is a transaction that the port has to acknowledge. -/
theorem portIsSilentInLoading : Obligations.PortIsSilentInLoading := by
  intro s c hr hc
  rcases hc with ⟨_, _, _, rfl⟩ | ⟨_, _, rfl⟩ | rfl | ⟨_, _, _, rfl⟩ | ⟨_, _, rfl⟩ | ⟨_, rfl⟩ | ⟨_, rfl⟩ | ⟨_, rfl⟩
    | ⟨_, rfl⟩ | ⟨_, _, rfl⟩ | ⟨_, rfl⟩ | ⟨_, rfl⟩ | ⟨_, rfl⟩ | ⟨_, rfl⟩ | ⟨_, rfl⟩ | ⟨_, rfl⟩ | ⟨_, rfl⟩ <;>
  exact whenAnswering_loading hr _

/-! ## The timebase, the work that is due and the queue -/

/-- What the ticks and the queue are at. -/
def State.clock (s : State) : Bool × Nat × List TickWork × List Instr := (s.powered, s.timebase, s.due, s.pending)

section
variable {s t u : State}

theorem State.clock_of_apart (h : t.apart = s.apart) : t.clock = s.clock := (congrArg State.clock h :)

theorem clock_of_whenPowered (h : whenPowered s u = .next t) (hu : u.clock = s.clock) : t.clock = s.clock :=
  of_whenPowered (I := fun x => x.clock = s.clock) h rfl fun _ => hu

theorem clock_of_whenAnswering (h : whenAnswering s u = .next t) (hu : u.clock = s.clock) : t.clock = s.clock :=
  of_whenAnswering (I := fun x => x.clock = s.clock) h rfl fun _ _ => hu

theorem clock_of_ite {p : Prop} [Decidable p] {v : State} (hu : u.clock = s.clock) (hv : v.clock = s.clock) :
    (if p then u else v).clock = s.clock := by
  split
  · exact hu
  · exact hv

/-- A piece of work taken, whether it was due or not. -/
theorem State.clock_takeWork {w : TickWork} {f : State → State} (hf : ∀ u, (f u).clock = u.clock) :
    (s.takeWork w f).clock = (s.workTaken w).clock := by
  obtain ⟨h, -⟩ | ⟨h, hw⟩ := s.takeWork_cases w f
  · rw [h, hf]
  · rw [h, State.clock, State.clock, State.workTaken_due, List.erase_of_not_mem hw]
    rfl

theorem clock_of_takeWork {w : TickWork} {f : State → State} (h : whenPowered s (s.takeWork w f) = .next t)
    (hf : ∀ u, (f u).clock = u.clock) : t.clock = if s.powered then (s.workTaken w).clock else s.clock := by
  obtain rfl := Host.Outcome.next.inj h
  split
  · exact State.clock_takeWork hf
  · rfl

end

/-- A command of a tick takes its piece of work, and nothing else of the ticks. -/
theorem exec_clock_of_work {c : Instr} {w : TickWork} {s t : State} (hw : c.work = some w) (h : exec c s = .next t) :
    t.clock = if s.powered then (s.workTaken w).clock else s.clock := by
  cases c <;> simp only [Instr.work, Option.some.injEq, reduceCtorEq] at hw <;> subst hw
  case lineTick | sampleTick | dwellIncrement | settleEnd | cleanRun => exact clock_of_takeWork h fun _ => rfl
  case evaluation =>
    exact clock_of_takeWork h fun u => clock_of_ite (State.clock_of_apart (s := u.formAllowance) u.evaluate_apart) rfl
  case minOffExpiry => exact clock_of_takeWork h fun u => clock_of_ite (State.clock_of_apart (by simp)) rfl
  case holdLimitExpiry n => exact clock_of_takeWork h fun u => State.clock_of_apart (u.holdLimitTick_apart n)
  case minOnReached n => exact clock_of_takeWork h fun u => State.clock_of_apart (u.minOnCheck_apart n)
  case retryExpiry n => exact clock_of_takeWork h fun u => State.clock_of_apart (u.retryTick_apart n)

/-- The commands that set the timebase or end it. -/
def SetsClock : Instr → Prop
  | .captureTick _ | .powerOn _ _ | .lossOfPower _ => True
  | _ => False

theorem clock_of_command {i : Nat} {channel : Byte} {effect : State → State × CommandResult} {s t : State}
    (h : whenAnswering s (s.command i channel effect) = .next t) (he : ∀ u : State, (effect u).1.clock = u.clock) :
    t.clock = s.clock :=
  clock_of_whenAnswering h (he { s with port := s.port.reach .command i })

theorem clock_of_commit {space : Space} {index : Nat} {effect : Option Wide → State → State} {s t : State}
    (h : whenAnswering s (s.maskedCommit space index effect) = .next t)
    (he : ∀ mask (u : State), (effect mask u).clock = u.clock) : t.clock = s.clock :=
  clock_of_whenAnswering h (he s.port.mask { s with port := s.port.reach space index })

/-- The transactions of the Record Port (R168). -/
def OverPort : Instr → Prop
  | .pointerSet _ _ _ | .readTransaction _ _ | .statusSnapshot | .partialWrite _ _ _ | .loadCommit _ _ => True
  | .meterProfileCommit _ | .budgetProfileCommit _ | .restTableCommit _ | .statusCommit _ | .listsWrite _ _ => True
  | .clearFault _ | .forgetDraw _ | .setReserve _ | .clearAnchor _ | .saveProfile _ | .restart _ | .setChangeMask _ => True
  | _ => False

theorem State.clock_beginRestart (s : State) : s.beginRestart.clock = s.clock := rfl

/-- A transaction leaves the timebase, the work that is due and the queue. -/
theorem exec_clock_of_port {c : Instr} {s t : State} (hc : OverPort c) (h : exec c s = .next t) :
    t.clock = s.clock := by
  cases c <;> try exact hc.elim
  case pointerSet =>
    refine clock_of_whenAnswering h ?_
    split
    · exact clock_of_ite rfl rfl
    · rfl
  case readTransaction =>
    refine clock_of_whenAnswering h (clock_of_ite ?_ rfl)
    rw [State.readBytes_eq]
    rfl
  case statusSnapshot =>
    refine clock_of_whenAnswering h ?_
    rw [State.readByte_eq]
    rfl
  case partialWrite => exact clock_of_whenAnswering h (clock_of_ite rfl rfl)
  case listsWrite | statusCommit | setChangeMask => exact clock_of_whenAnswering h rfl
  case loadCommit n d => exact clock_of_commit h fun mask u => State.clock_of_apart (u.commitLoad_apart n mask _)
  case meterProfileCommit =>
    exact clock_of_commit h fun mask u => clock_of_ite rfl (State.clock_of_apart (u.refuseIf_apart _))
  case budgetProfileCommit =>
    exact clock_of_commit h fun mask u => clock_of_ite rfl (State.clock_of_apart (u.refuseIf_apart _))
  case restTableCommit =>
    exact clock_of_commit h fun mask u =>
      clock_of_ite (clock_of_ite rfl rfl) (State.clock_of_apart (u.refuseIf_apart _))
  case setReserve | clearAnchor => exact clock_of_command h fun _ => rfl
  case saveProfile =>
    refine clock_of_command h fun u => ?_
    unfold State.saveProfile
    split <;> rfl
  case restart =>
    refine clock_of_whenAnswering h ?_
    split
    · exact State.clock_beginRestart _
    · rfl
  case clearFault =>
    refine clock_of_command h fun u => ?_
    split
    · next n _ => exact State.clock_of_apart (u.clearFault_apart n)
    · rfl
  case forgetDraw =>
    refine clock_of_command h fun u => ?_
    split
    · next n _ => exact State.clock_of_apart (u.forgetDraw_apart n)
    · rfl

/-- A command that is no work of a tick leaves the timebase, the work that is due and the queue. -/
theorem exec_clock_of_other {c : Instr} {s t : State} (hw : c.work = none) (hc : ¬SetsClock c)
    (h : exec c s = .next t) : t.clock = s.clock := by
  by_cases hport : OverPort c
  case pos => exact exec_clock_of_port hport h
  cases c <;> simp only [Instr.work, reduceCtorEq] at hw <;> try exact absurd trivial hport
  case powerOn | lossOfPower | captureTick => exact absurd trivial hc
  case startupStage2 =>
    refine clock_of_whenPowered h (clock_of_ite ?_ rfl)
    simp only [State.stage2]
    split <;> rfl
  case startupStage3 =>
    refine clock_of_whenPowered h ?_
    split
    · exact clock_of_ite
        (State.clock_of_apart (s := { s with startup := ⟨true, s.startup.ticks, none⟩ }) (s.stage3_apart _)) rfl
    · rfl
  case pulse | quietExpiry | fullSync | setupLevelChange | holdAssertion =>
    exact clock_of_whenPowered h (clock_of_ite rfl rfl)
  case restReAnchor =>
    refine clock_of_whenPowered h (clock_of_ite ?_ rfl)
    simp only [State.restReAnchor]
    split <;> rfl
  case saveCompletion found =>
    refine clock_of_whenPowered h ?_
    split
    · simp only [State.completeSave]
      split
      · split <;> rfl
      · split <;> rfl
    · rfl
  case stableLevelChange n =>
    exact clock_of_whenPowered h (clock_of_ite (State.clock_of_apart (s := s.switchToggled n) (by simp)) rfl)
  case holdRelease l =>
    exact clock_of_whenPowered h (clock_of_ite (State.clock_of_apart (s := s.holdToggled l) (by simp)) rfl)
  case forceOffAssertion =>
    exact clock_of_whenPowered h (clock_of_ite
      (State.clock_of_apart (s := { s with forceOff := ⟨true, 0⟩ }) s.forceOffAsserted_apart) rfl)
  case forceOffRelease =>
    exact clock_of_whenPowered h
      (clock_of_ite (State.clock_of_apart (s := { s with forceOff := ⟨false, 0⟩ }) (by simp)) rfl)
  case trip n => exact clock_of_whenPowered h (clock_of_ite (State.clock_of_apart (by simp)) rfl)

/-- No command touches the queue (log 28). -/
theorem exec_pending {c : Instr} {s t : State} (h : exec c s = .next t) : t.pending = s.pending := by
  have of_clock : ∀ {u : State}, t.clock = u.clock → t.pending = u.pending := fun hc => congrArg (·.2.2.2) hc
  cases hw : c.work with
  | some w =>
    have hc := exec_clock_of_work hw h
    split at hc
    · exact of_clock (u := s.workTaken w) hc
    · exact of_clock hc
  | none =>
    by_cases hc : SetsClock c
    case neg => exact of_clock (exec_clock_of_other hw hc h)
    cases c <;> try exact hc.elim
    case powerOn => exact Host.Outcome.next.inj h ▸ rfl
    case lossOfPower => exact of_whenPowered (I := fun x => x.pending = s.pending) h rfl fun _ => rfl
    case captureTick => exact of_whenPowered (I := fun x => x.pending = s.pending) h rfl fun _ => rfl

/-- Settles O2: no arm faults or refuses, and none touches the queue. -/
theorem everyCommandAnswersAndKeepsTheQueue : Obligations.EveryCommandAnswersAndKeepsTheQueue := by
  intro c s
  obtain ⟨t, h⟩ := exec_answers c s
  exact ⟨t, h, exec_pending h⟩

/-! ## The ticks of a second (R2) -/

theorem mem_secondTickWork {w : TickWork} (hl : w ≠ .line) (hs : w ≠ .sample) : w ∈ secondTickWork := by
  cases w with
  | line => exact absurd rfl hl
  | sample => exact absurd rfl hs
  | evaluation | dwell | minOff => decide
  | settle n | holdLimit n | minOn n | retry n | cleanRun n =>
    simp only [secondTickWork, List.mem_append, List.mem_flatMap]
    exact .inr ⟨n, mem_channels n, by simp⟩

theorem line_mem_workAt {p : Nat} : .line ∈ workAt p ↔ p % 10 = 0 := by
  have h : TickWork.line ∉ secondTickWork := by decide
  simp only [workAt, List.mem_append]
  split <;> split <;> split <;> simp_all

theorem sample_mem_workAt {p : Nat} : .sample ∈ workAt p ↔ p % 2500 = 0 := by
  have h : TickWork.sample ∉ secondTickWork := by decide
  simp only [workAt, List.mem_append]
  split <;> split <;> split <;> simp_all

theorem mem_workAt {p : Nat} {w : TickWork} (hl : w ≠ .line) (hs : w ≠ .sample) : w ∈ workAt p ↔ p % 10000 = 0 := by
  have h := mem_secondTickWork hl hs
  simp only [workAt, List.mem_append]
  split <;> split <;> split <;> simp_all

/-- The work that is due after the capture tick of this number from power-on. -/
def workAfter (count : Nat) : List TickWork := if count = 0 then [] else workAt ((count - 1) % 10000 + 1)

/-- The place within its second of the capture tick of this number. -/
def placeAfter (count : Nat) : Nat := if count = 0 then 0 else (count - 1) % 10000 + 1

theorem placeAfter_succ (count : Nat) : placeAfter count % 10000 + 1 = placeAfter (count + 1) := by
  unfold placeAfter
  split <;> simp <;> omega

/-- A run of capture ticks counts the timebase and leaves the work of the last one due. -/
theorem foldl_captureTick (levels : List Bool) {s : State} {count : Nat} (hp : s.powered = true)
    (hplace : s.timebase = placeAfter count) (hdue : s.due = workAfter count) :
    ∃ t : State, levels.foldl (fun (o : Result) cq => match o with
        | .next u => exec (.captureTick cq) u
        | stop => stop) (.next s) = .next t
      ∧ t.due = workAfter (count + levels.length) := by
  induction levels generalizing s count with
  | nil => exact ⟨s, rfl, hdue⟩
  | cons cq levels ih =>
    have hnext : exec (.captureTick cq) s = .next { s.tickCounted with sense := s.sense.capture cq } :=
      whenPowered_of hp _
    have hcounted : s.timebase % 10000 + 1 = placeAfter (count + 1) := by rw [hplace, placeAfter_succ]
    obtain ⟨t, ht, htdue⟩ := ih (s := { s.tickCounted with sense := s.sense.capture cq }) (count := count + 1) hp hcounted
      (by
        show workAt (s.timebase % 10000 + 1) = _
        rw [hcounted]
        rfl)
    refine ⟨t, ?_, by rw [htdue, List.length_cons]; congr 1; omega⟩
    rw [List.foldl_cons]
    show levels.foldl _ (exec (.captureTick cq) s) = _
    rw [hnext]
    exact ht

theorem exec_of_work_not_due {c : Instr} {w : TickWork} {s : State} (hw : c.work = some w) (hd : w ∉ s.due) :
    exec c s = .next s := by
  have hsame : ∀ f : State → State, whenPowered s (s.takeWork w f) = .next s := fun f => by
    rw [s.takeWork_not hd, whenPowered, ite_self]
  cases c <;> simp only [Instr.work, Option.some.injEq, reduceCtorEq] at hw <;> subst hw <;> exact hsame _

/-- Settles O6: the place of a capture tick within its second gives the work that falls there; a command of a tick takes its
piece, and no other command touches what is due. -/
theorem ticksFallInFixedRatio : Obligations.TicksFallInFixedRatio := by
  refine ⟨fun levels s hp hplace hdue => ?_, fun s c w => exec_of_work_not_due, fun s t c w hp hw _ h => ?_,
    fun s t c hw hcapture hon hloss h => ?_, fun s hd => ?_⟩
  · obtain ⟨t, ht, htdue⟩ := foldl_captureTick levels (count := 0) hp hplace hdue
    rw [Nat.zero_add] at htdue
    refine ⟨t, ht, ?_, ?_, ?_, fun w hl hs => ?_⟩ <;> rw [htdue, workAfter] <;> split
    · exact List.nodup_nil
    · exact workAt_nodup _
    · simp_all
    · rw [line_mem_workAt]; omega
    · simp_all
    · rw [sample_mem_workAt]; omega
    · simp_all
    · rw [mem_workAt hl hs]; omega
  · have hc := exec_clock_of_work hw h
    rw [if_pos hp] at hc
    exact congrArg (·.2.2.1) hc
  · have hc : ¬SetsClock c := by
      cases c <;> simp_all [SetsClock]
    exact congrArg (·.2.2.1) (exec_clock_of_other hw hc h)
  · show whenPowered s _ = _
    rw [if_neg hd, whenPowered, ite_self]

end Sys2Proof.Machine
end

section
/-! PROOFS. The part as power-on leaves it (R193), and the capture tick, the pulse and the sample tick (02_battery_sense.md). -/

namespace Sys2Proof.Machine

/-! ## Power-on -/

section
variable (address : BitVec 7) (image : StoreWords) (q : List Instr)

@[simp] theorem State.load_poweredOn (n : Channel) : (State.poweredOn address image q).load n = {} := by
  simp [State.poweredOn, State.load]

theorem State.poweredOn_outputs (n : Channel) : (State.poweredOn address image q).outputs[n] = false := by
  rw [State.outputs_get, State.load_poweredOn]
  rfl

theorem Load.lawful_default : ({} : Load).lawful := by decide

theorem State.poweredOn_alertLow : (State.poweredOn address image q).alertLow = false := by
  simp [State.poweredOn, State.alertLow, Port.atPowerOn]

theorem State.poweredOn_listsInOrder : (State.poweredOn address image q).listsInOrder := by
  have hl := State.load_poweredOn address image q
  refine ⟨fun n => by rw [hl]; exact Load.lawful_default, ⟨fun n => ?_, fun n => ?_, .nil, .nil⟩, ⟨Nat.zero_le _, nofun⟩,
    ⟨fun n => ?_, fun n => ?_, fun m n _ _ => ?_, fun m n _ _ => ?_⟩, .nil, .nil⟩
  · rw [hl]; exact ⟨nofun, nofun⟩
  · rw [hl]; exact ⟨nofun, nofun⟩
  all_goals simp only [hl]
  · exact nofun
  · exact nofun

theorem State.poweredOn_loadingLaw : (State.poweredOn address image q).loadingLaw := fun _ n => by simp

theorem State.poweredOn_oneStarting : (State.poweredOn address image q).oneStarting := fun m n h => by simp at h

theorem State.poweredOn_windowsLaw : (State.poweredOn address image q).windowsLaw := fun n o h => by
  simp [Window.opening] at h

theorem State.poweredOn_pointerLaw : (State.poweredOn address image q).pointerLaw :=
  ⟨Nat.zero_lt_succ 11, Nat.zero_lt_succ 27, rfl, nofun, rfl⟩

theorem State.poweredOn_tickLaw : (State.poweredOn address image q).tickLaw :=
  ⟨Nat.zero_le _, List.nodup_nil, fun _ => rfl, nofun⟩

theorem Meter.lawful_factory : ({} : Meter).lawful := by decide

theorem Budget.lawful_factory : ({} : Budget).lawful := by decide

theorem State.poweredOn_countersInRange : (State.poweredOn address image q).countersInRange := by
  refine ⟨Budget.lawful_factory, Meter.lawful_factory, Nat.zero_le _, Nat.zero_le _, nofun, Nat.zero_le _, Nat.zero_le _,
    le_rfl, Nat.zero_le _, fun n => ?_, fun h => ?_, Nat.zero_le _, Nat.zero_le _, Nat.zero_le _⟩
  · simp [State.poweredOn, SwitchLine.fresh]
  · simp [State.poweredOn, Filter.released]

end

/-- Settles O4: the values of `State.poweredOn`, block by block. -/
theorem powerOnSetsPowerOnValues : Obligations.PowerOnSetsPowerOnValues := by
  intro ads1 ads0 s
  refine ⟨State.poweredOn (addressOf ads1 ads0) s.store.image s.pending, rfl, rfl, rfl, rfl,
    ⟨rfl, rfl, rfl, rfl, rfl, rfl, rfl, rfl, rfl, rfl⟩, ⟨rfl, rfl, rfl, rfl⟩, rfl, rfl, rfl,
    ⟨rfl, rfl, rfl, rfl, rfl, rfl, rfl, rfl⟩, fun n => State.load_poweredOn .., fun n => State.poweredOn_outputs ..,
    ⟨fun h => ?_, rfl, rfl, fun n => ?_⟩, ?_,
    ⟨rfl, rfl, rfl, rfl, rfl, rfl, rfl, rfl, rfl, rfl, rfl, State.poweredOn_alertLow ..⟩,
    ⟨rfl, rfl, rfl, rfl⟩, rfl⟩
  · simp [State.poweredOn, Filter.released]
  · simp [State.poweredOn, SwitchLine.fresh]
  · cases ads1 <;> cases ads0 <;> rfl

/-- Settles O5: reset is what power-on with low straps leaves, and the laws of such a part. -/
theorem resetIsPoweredOnAndLawful : Obligations.ResetIsPoweredOnAndLawful := by
  refine ⟨rfl, by decide, ⟨nofun, Nat.zero_le _⟩, by decide, State.poweredOn_countersInRange .., Nat.zero_le _,
    State.poweredOn_listsInOrder .., ?_, ?_, State.poweredOn_loadingLaw _ _ _, nofun, State.poweredOn_oneStarting _ _ _,
    State.poweredOn_pointerLaw .., State.poweredOn_tickLaw .., State.poweredOn_windowsLaw _ _ _⟩
  · exact (State.allSound_iff.mp (State.allSound_poweredOn ..)).1
  · exact (State.allSound_iff.mp (State.allSound_poweredOn ..)).2

/-! ## The capture tick and the pulse (R27 to R31) -/

theorem exec_captureTick {s : State} (high : Bool) (hp : s.powered = true) :
    exec (.captureTick high) s = .next { s.tickCounted with sense := s.sense.capture high } := whenPowered_of hp _

/-- The counter's wrap (R27). -/
theorem Sense.capture_eq {b : Sense} (high : Bool) (h : b.counter ≤ 16777215) :
    b.capture high = { b with
      counter := if b.counter = 16777215 then 0 else b.counter + 1, edge := !b.cq && high, cq := high } := by
  have hwrap : (b.counter + 1) % counterRange = if b.counter = 16777215 then 0 else b.counter + 1 := by
    unfold counterRange
    split <;> omega
  rw [Sense.capture, hwrap]

/-- Settles O7: the tick's equation, with the remainder by 2^24 written as the wrap. -/
theorem captureTickCountsAndSamples : Obligations.CaptureTickCountsAndSamples := by
  refine ⟨fun s high hp hc => ?_, fun a b high s t u hon h => ?_⟩
  · rw [exec_captureTick high hp, Sense.capture_eq high hc]
    rfl
  · obtain rfl := Host.Outcome.next.inj hon
    obtain rfl := Host.Outcome.next.inj ((exec_captureTick high rfl).symm.trans h)
    exact ⟨rfl, rfl⟩

theorem exec_pulse_of_no_edge {s : State} (d : Bool) (he : s.sense.edge = false) : exec (.pulse d) s = .next s := by
  show whenPowered s _ = _
  rw [if_neg (by simp [he]), whenPowered, ite_self]

theorem Window.seePulse_eq (d : Direction) (w : Window) :
    w.seePulse d = match w with
      | .closed => .closed
      | .settling o => if o.dir = d then .settling o else .closed
      | .closing o => if o.dir = d then .closing o else .closed := by cases w <;> rfl

/-- Settles O8: the pulse's equation, read at Battery Sense, at the unanchored reserve and at every window. -/
theorem pulseFormsPeriodAndStamp : Obligations.PulseFormsPeriodAndStamp := by
  intro s d hp
  refine ⟨exec_pulse_of_no_edge d, fun he => ⟨_, exec_pulse_of_edge d hp he, rfl, fun hq => ?_, fun n => ?_⟩⟩
  · rw [State.takePulse_reserve]
    cases d
    · simp [directionOf, Reserve.takePulse, Reserve.chargePulse, hq]
    · simp only [directionOf, if_true, Reserve.takePulse, Reserve.dischargePulse, hq, Option.map_none]
      rw [← hq]
  · rw [State.takePulse, State.load_mapLoads, Window.seePulse_eq]
    rfl

/-! ## The sample tick (R32 to R39) -/

theorem exec_sampleTick {s : State} (code : BitVec 12) (hp : s.powered = true) (hd : .sample ∈ s.due) :
    exec (.sampleTick code) s = .next ((s.workTaken .sample).sampleTick code) := by
  show whenPowered s _ = _
  rw [whenPowered_of hp, s.takeWork_of hd]

theorem exec_quietExpiry {s : State} (hp : s.powered = true) (hd : .sample ∈ s.due) :
    exec .quietExpiry s = .next { s with sense := s.sense.quietTest s.meter } := by
  show whenPowered s _ = _
  rw [whenPowered_of hp, if_pos hd]

theorem Sense.quietTest_of_none {b : Sense} (m : Meter) (h : b.stamp = none) : b.quietTest m = b := by
  simp [Sense.quietTest, h]

theorem Sense.quietTest_of_recent {b : Sense} {m : Meter} {k : Nat} (h : b.stamp = some k)
    (hr : (b.counter + 16777216 - k) % 16777216 ≤ m.quietTime * 10000) : b.quietTest m = b := by
  simp only [Sense.quietTest, h]
  exact if_neg (Nat.not_lt.mpr hr)

theorem Sense.quietTest_of_old {b : Sense} {m : Meter} {k : Nat} (h : b.stamp = some k)
    (ho : m.quietTime * 10000 < (b.counter + 16777216 - k) % 16777216) :
    b.quietTest m = { b with stamp := none, period := none } := by
  simp only [Sense.quietTest, h]
  exact if_pos ho

/-- Settles O10: the three cases of the quiet test, which both commands take. -/
theorem quietTestDiscardsAnOldStamp : Obligations.QuietTestDiscardsAnOldStamp := by
  intro s hp hd
  have hsample : ∀ code, ∃ t : State, exec (.sampleTick code) s = .next t
      ∧ t.sense.stamp = (s.sense.quietTest s.meter).stamp ∧ t.sense.period = (s.sense.quietTest s.meter).period
      ∧ t.sense.dir = (s.sense.quietTest s.meter).dir := fun code =>
    ⟨_, exec_sampleTick code hp hd, rfl, rfl, rfl⟩
  have hquiet := exec_quietExpiry hp hd
  refine ⟨fun hnone => ?_, fun k hk => ⟨fun hr => ?_, fun ho => ?_⟩⟩
  · rw [Sense.quietTest_of_none _ hnone] at hsample hquiet
    exact ⟨hquiet, by simpa only [hnone] using hsample⟩
  · rw [Sense.quietTest_of_recent hk hr] at hsample hquiet
    exact ⟨hquiet, by simpa only [hk] using hsample⟩
  · rw [Sense.quietTest_of_old hk ho] at hsample hquiet
    exact ⟨hquiet, hsample⟩

/-- The test changes neither the counter nor the direction. -/
theorem Sense.quietTest_keeps (m : Meter) (b : Sense) :
    b.quietTest m = { b with stamp := (b.quietTest m).stamp, period := (b.quietTest m).period } := by
  unfold Sense.quietTest
  split
  · rfl
  · split <;> rfl

theorem Sense.quietTest_counter (m : Meter) (b : Sense) : (b.quietTest m).counter = b.counter := by
  rw [b.quietTest_keeps m]

theorem Sense.quietTest_dir (m : Meter) (b : Sense) : (b.quietTest m).dir = b.dir := by rw [b.quietTest_keeps m]

theorem Sense.estimate_of_none {b : Sense} (m : Meter) (h : b.period = none) : b.estimate m = (0, false) := by
  simp [Sense.estimate, h]

theorem Sense.estimate_of_some {b : Sense} {m : Meter} {k p : Nat} (hk : b.stamp = some k) (h : b.period = some p)
    (hp : 2 ≤ p) : b.estimate m =
      (match b.dir with
        | .discharge => ((min 500000 (m.pulseWeight * 10000 / max p ((b.counter + 16777216 - k) % 16777216)) : Nat) : Int)
        | .charge => -((min 500000 (m.pulseWeight * 10000 / max p ((b.counter + 16777216 - k) % 16777216)) : Nat) : Int),
       true) := by
  have hd : max p (elapsed b.counter k) ≠ 0 := by omega
  simp only [Sense.estimate, h, Sense.sinceLast, hk, estimateMagnitude, if_neg hd]
  rfl

/-- Settles O11: the estimate after the quiet test, by its period. -/
theorem sampleTickFormsEstimate : Obligations.SampleTickFormsEstimate := by
  intro s code hp hd
  refine ⟨_, exec_sampleTick code hp hd, fun hnone => ?_, fun k p hk hperiod hle => ?_⟩
  · have h := Sense.estimate_of_none s.meter hnone
    exact ⟨congrArg Prod.fst h, congrArg Prod.snd h⟩
  · have h := Sense.estimate_of_some (m := s.meter) (b := s.sense.quietTest s.meter) hk hperiod hle
    rw [Sense.quietTest_counter, Sense.quietTest_dir] at h
    exact ⟨congrArg Prod.snd h, congrArg Prod.fst h⟩

theorem Sense.sample_keeps (m : Meter) (code : BitVec 12) (b : Sense) :
    b.sample m code = { b with
      stamp := (b.sample m code).stamp, period := (b.sample m code).period, pub := (b.sample m code).pub } := by
  simp only [Sense.sample]
  rw [b.quietTest_keeps m]

theorem Load.closeWindow_keeps (p : Published) (r : Load) :
    r.closeWindow p = { r with window := (r.closeWindow p).window, learnedDraw := (r.closeWindow p).learnedDraw } := by
  unfold Load.closeWindow
  split <;> rfl

theorem compensate_eq (r v : Nat) (f : Int) :
    (compensate r v f : Int) = max 0 (min 32767 ((v : Nat) + (f * r).tdiv 1000)) :=
  Int.toNat_of_nonneg (le_max_left ..)

/-- The filtered current that a sample tick publishes (R36). -/
theorem Sense.sample_filtered (m : Meter) (code : BitVec 12) (b : Sense) :
    (b.sample m code).pub.filtered = filterStep m.filterShift b.pub.filtered (b.sample m code).pub.current := by
  simp only [Sense.sample, Sense.publish, Sense.quietTest_pub]

theorem State.load_sampleTick (s : State) (code : BitVec 12) (n : Channel) :
    (s.sampleTick code).load n = (s.load n).closeWindow (s.sense.sample s.meter code).pub := State.load_mapLoads _ n _

/-- Settles O12: the frame of the sample tick and the three equations of its set. -/
theorem sampleTickFiltersAndConverts : Obligations.SampleTickFiltersAndConverts := by
  intro s code hp hd
  have hfiltered := Sense.sample_filtered s.meter code s.sense
  have hbetween := filterStep_between s.meter.filterShift s.sense.pub.filtered (s.sense.sample s.meter code).pub.current
  refine ⟨_, exec_sampleTick code hp hd, ?_, fun n => ?_, hfiltered, fun hz => ?_, hfiltered ▸ hbetween.1,
    hfiltered ▸ hbetween.2, rfl, compensate_eq ..⟩
  · exact congrArg (fun b => { (s.workTaken .sample).sampleTick code with sense := b })
      (Sense.sample_keeps s.meter code s.sense)
  · rw [State.load_sampleTick]
    exact Load.closeWindow_keeps ..
  · refine hfiltered.trans ?_
    rw [hz, filterStep_zero]
    rfl

/-! ## The run counters and the anchors (R51, R52, R54, R55) -/

theorem fullCondition_iff {m : Meter} {p : Published} : fullCondition m p = true ↔
    m.fullVoltage ≤ p.sensed ∧ p.valid = true ∧ p.filtered ≤ 0 ∧ -p.filtered ≤ m.tailCurrent := by
  simp [fullCondition, and_assoc]

theorem restCondition_iff {m : Meter} {p : Published} :
    restCondition m p = true ↔ p.filtered.natAbs ≤ m.restCurrent := by simp [restCondition]

theorem runStep_of_lt {b : Bool} {limit run : Nat} (hb : b = true) (h : run < limit) : runStep b limit run = run + 1 := by
  simp [runStep, hb, h]

theorem runStep_of_le {b : Bool} {limit run : Nat} (hb : b = true) (h : limit ≤ run) : runStep b limit run = limit := by
  simp [runStep, hb, Nat.not_lt.mpr h]

theorem runStep_of_not {b : Bool} (hb : ¬b = true) (limit run : Nat) : runStep b limit run = 0 := by simp [runStep, hb]

theorem runCompletes_iff {b : Bool} {limit run : Nat} :
    runCompletes b limit run = true ↔ b = true ∧ run + 1 = limit := by
  simp only [runCompletes, Bool.and_eq_true, decide_eq_true_eq, beq_iff_eq]
  exact ⟨fun ⟨⟨hb, _⟩, h⟩ => ⟨hb, h⟩, fun ⟨hb, h⟩ => ⟨⟨hb, by omega⟩, h⟩⟩

theorem State.sampleTick_reserve (s : State) (code : BitVec 12) :
    (s.sampleTick code).reserve = s.reserve.test s.meter (s.sense.sample s.meter code).pub := rfl

/-- Settles O14: both run counters step by their condition on the published set, and what completes is due. -/
theorem sampleTickStepsRunCounters : Obligations.SampleTickStepsRunCounters := by
  intro s code hp hd
  refine ⟨_, exec_sampleTick code hp hd, rfl, rfl, fun hf hlt => ?_, fun hf hle => ?_, fun hf => ?_, ?_, fun hr hlt => ?_,
    fun hr hle => ?_, fun hr => ?_, ?_⟩ <;> rw [State.sampleTick_reserve]
  · exact runStep_of_lt (fullCondition_iff.mpr hf) hlt
  · exact runStep_of_le (fullCondition_iff.mpr hf) hle
  · exact runStep_of_not (fun h => hf (fullCondition_iff.mp h)) ..
  · exact runCompletes_iff.trans (and_congr_left' fullCondition_iff)
  · exact runStep_of_lt (restCondition_iff.mpr hr) hlt
  · exact runStep_of_le (restCondition_iff.mpr hr) hle
  · exact runStep_of_not (fun h => hr (restCondition_iff.mp h)) ..
  · simp only [Reserve.test, Bool.and_eq_true, Bool.not_eq_true', runCompletes_iff, restCondition_iff]
    exact Iff.rfl

/-- Settles O15: the sync that is due. -/
theorem fullSyncSetsCapacity : Obligations.FullSyncSetsCapacity := by
  intro s hp
  refine ⟨fun hd => ?_, fun hd => ?_⟩
  · show whenPowered s _ = _
    rw [if_neg (by simp [hd]), whenPowered, ite_self]
  · show whenPowered s _ = _
    rw [if_pos hd, whenPowered_of hp]
    rfl

theorem exec_restReAnchor {s : State} (hp : s.powered = true) (hd : s.reserve.reanchorDue = true) :
    exec .restReAnchor s = .next s.restReAnchor := by
  show whenPowered s _ = _
  rw [if_pos hd, whenPowered_of hp]

theorem distance_eq (a b : Nat) : (distance a b : Int) = |(a : Int) - (b : Int)| := by
  unfold distance
  obtain h | h := le_total a b
  · rw [abs_of_nonpos (by omega)]; omega
  · rw [abs_of_nonneg (by omega)]; omega

theorem State.reanchors_of_unanchored {s : State} (hq : s.reserve.q = none) (rested : Nat) :
    s.reanchors rested = true := by simp [State.reanchors, State.fraction, hq]

theorem State.reanchors_iff {s : State} {q : Nat} (hq : s.reserve.q = some q) (rested : Nat) :
    s.reanchors rested = true ↔
      (s.meter.restTolerance : Int) < |((q * 1000 / (s.meter.capacity * 3600000) : Nat) : Int) - (rested : Nat)| := by
  rw [← distance_eq]
  simp [State.reanchors, State.fraction, hq, Meter.capacityMas]

theorem State.restReAnchor_of {s : State} (h : s.reanchors (mapRest s.rest s.sense.pub.sensed) = true) :
    s.restReAnchor = { s with
      reserve := { s.reserve with
        q := some (mapRest s.rest s.sense.pub.sensed * (s.meter.capacity * 3600000) / 1000)
        remainder := 0, reanchorDue := false }
      port := s.port.withFlag 5 } := by
  simp only [State.restReAnchor]
  rw [if_pos h]
  rfl

theorem State.restReAnchor_of_not {s : State} (h : ¬s.reanchors (mapRest s.rest s.sense.pub.sensed) = true) :
    s.restReAnchor = { s with reserve := { s.reserve with reanchorDue := false } } := by
  simp only [State.restReAnchor]
  rw [if_neg h]

/-- Settles O17: the re-anchor that is due, by the drift. -/
theorem restReAnchorSetsReserve : Obligations.RestReAnchorSetsReserve := by
  intro s hp
  refine ⟨fun hd => ?_, fun hd => ?_⟩
  · show whenPowered s _ = _
    rw [if_neg (by simp [hd]), whenPowered, ite_self]
  · rw [exec_restReAnchor hp hd]
    refine ⟨fun hq => ?_, fun q hq => ⟨fun hfar => ?_, fun hnear => ?_⟩⟩
    · rw [State.restReAnchor_of (State.reanchors_of_unanchored hq _)]
    · rw [State.restReAnchor_of ((State.reanchors_iff hq _).mpr hfar)]
    · rw [State.restReAnchor_of_not fun h => absurd ((State.reanchors_iff hq _).mp h) (not_lt.mpr hnear)]

/-! ## The closing reading (R160 to R162) -/

theorem Load.closeWindow_of_not {r : Load} (p : Published) (h : ∀ o, r.window ≠ .closing o) : r.closeWindow p = r := by
  unfold Load.closeWindow
  split
  · next o ho => exact absurd ho (h o)
  · rfl

theorem Load.closeWindow_of_folds {r : Load} {o : Opening} {p : Published} (h : r.window = .closing o)
    (hf : o.valid = true ∧ p.valid = true ∧ 0 < p.current - o.before) :
    r.closeWindow p =
      { r with window := .closed, learnedDraw := some (fold r.learnedDraw (p.current - o.before).toNat) } := by
  have hf : (o.valid && p.valid && decide (0 < p.current - o.before)) = true := by simpa [and_assoc] using hf
  simp only [Load.closeWindow, h, if_pos hf]

theorem Load.closeWindow_of_no_fold {r : Load} {o : Opening} {p : Published} (h : r.window = .closing o)
    (hf : ¬(o.valid = true ∧ p.valid = true ∧ 0 < p.current - o.before)) :
    r.closeWindow p = { r with window := .closed } := by
  have hf : ¬(o.valid && p.valid && decide (0 < p.current - o.before)) = true := by simpa [and_assoc] using hf
  simp only [Load.closeWindow, h, if_neg hf]

/-- A quotient of naturals rounded up (R162). -/
theorem natCeil_div (a : Nat) {b : Nat} (hb : 0 < b) : ⌈(a : ℚ) / (b : ℚ)⌉₊ = (a + (b - 1)) / b := by
  have hbq : (0 : ℚ) < b := by exact_mod_cast hb
  apply le_antisymm
  · rw [Nat.ceil_le, div_le_iff₀ hbq]
    have h : a ≤ (a + (b - 1)) / b * b := by
      have := Nat.div_add_mod (a + (b - 1)) b
      have := Nat.mod_lt (a + (b - 1)) hb
      rw [mul_comm]
      omega
    exact_mod_cast h
  · rw [← Nat.lt_succ_iff, Nat.div_lt_iff_lt_mul hb]
    have h : (a : ℚ) ≤ ⌈(a : ℚ) / b⌉₊ * b := (div_le_iff₀ hbq).mp (Nat.le_ceil _)
    have h : a ≤ ⌈(a : ℚ) / b⌉₊ * b := by exact_mod_cast h
    rw [Nat.succ_mul]
    omega

theorem fold_none {sample : Int} (h : 0 < sample) :
    fold none sample.toNat = max 1 (min 65534 ⌈(sample : ℚ) / 10⌉₊) := by
  obtain ⟨k, rfl⟩ := Int.eq_ofNat_of_zero_le h.le
  have hk := natCeil_div k (b := 10) (by decide)
  norm_num at hk ⊢
  rw [hk]
  rfl

theorem fold_some {sample : Int} (l : Nat) (h : 0 < sample) :
    fold (some l) sample.toNat = max 1 (min 65534 ⌈((l : ℚ) * 10 + sample) / 20⌉₊) := by
  obtain ⟨k, rfl⟩ := Int.eq_ofNat_of_zero_le h.le
  have hk := natCeil_div (l * 10 + k) (b := 20) (by decide)
  norm_num at hk ⊢
  rw [hk]
  rfl

/-- Settles O55: the closing reading of each window on the published set. -/
theorem closingReadingFoldsValidSample : Obligations.ClosingReadingFoldsValidSample := by
  intro s code hp hd
  refine ⟨_, exec_sampleTick code hp hd, fun n =>
    ⟨fun o ho => ⟨fun hf hl => ?_, fun hf l hl => ?_, fun hf => ?_⟩, fun hno => ?_⟩⟩ <;>
  refine (State.load_sampleTick (s.workTaken .sample) code n).trans ?_
  · refine (Load.closeWindow_of_folds ho hf).trans ?_
    rw [hl]
    exact congrArg (fun d => { s.load n with window := .closed, learnedDraw := some d }) (fold_none hf.2.2)
  · refine (Load.closeWindow_of_folds ho hf).trans ?_
    rw [hl]
    exact congrArg (fun d => { s.load n with window := .closed, learnedDraw := some d }) (fold_some l hf.2.2)
  · exact Load.closeWindow_of_no_fold ho hf
  · exact Load.closeWindow_of_not _ hno

end Sys2Proof.Machine
end

section
/-! PROOFS. Commits of records over the port (R170, R171, R174 to R176), and those of the profiles and the reserve commands. -/

namespace Sys2Proof.Machine

/-! ## The port after a record (log 14) -/

/-- The port after a LOAD or PROFILE record whose effect set the flags and the REFUSED mark as given. -/
theorem Port.committed_reach {space : Space} {index : Nat} (hs : space = .load ∨ space = .profile) (p : Port)
    (flags : Byte) (refused : Bool) :
    { ({ p.reach space index with flags := flags, refusedMark := refused } : Port).committed space index with mask := none }
      = { p.afterRecord space index (nextIndex space index) with mask := none, refusedMark := refused, flags := flags } := by
  obtain rfl | rfl := hs <;> simp only [Port.committed, Port.reach, Port.afterRecord] <;> split <;> rfl

theorem nextIndex_load (n : Channel) : nextIndex .load n.val = if n.val = 11 then 0 else n.val + 1 := by
  have h := n.isLt
  by_cases hn : n.val = 11
  · rw [if_pos hn, nextIndex, if_neg (by simp [Space.records, hn])]
  · rw [if_neg hn, nextIndex, if_pos (by simp only [Space.records]; omega)]

theorem State.refuseIf_eq (s : State) (b : Bool) :
    s.refuseIf b = { s with port := { s.port with refusedMark := s.port.refusedMark || b } } := by
  cases b
  · simp [State.refuseIf]
  · simp [State.refuseIf, State.refuse]

theorem Port.reach_refusedMark (space : Space) (index : Nat) (p : Port) :
    (p.reach space index).refusedMark = p.refusedMark := by
  unfold Port.reach; split <;> rfl

theorem Port.reach_flags (space : Space) (index : Nat) (p : Port) : (p.reach space index).flags = p.flags := by
  unfold Port.reach; split <;> rfl

/-- A commit of a record whose effect acts beside the port. -/
theorem Port.committed_reach_same {space : Space} {index : Nat} (hs : space = .load ∨ space = .profile) (p : Port) :
    { (p.reach space index).committed space index with mask := none }
      = { p.afterRecord space index (nextIndex space index) with mask := none } := by
  obtain rfl | rfl := hs <;> simp only [Port.committed, Port.reach, Port.afterRecord] <;> split <;> rfl

theorem Port.committed_reach_refused {space : Space} {index : Nat} (hs : space = .load ∨ space = .profile) (p : Port)
    (b : Bool) :
    { ({ p.reach space index with refusedMark := (p.reach space index).refusedMark || b } : Port).committed space index with
        mask := none }
      = { p.afterRecord space index (nextIndex space index) with mask := none, refusedMark := p.refusedMark || b } := by
  obtain rfl | rfl := hs <;> simp only [Port.committed, Port.reach, Port.afterRecord] <;> split <;> rfl

/-- The port after a command record. -/
theorem Port.committed_command {i : Nat} (hi : i < 7) (channel result : Byte) (p : Port) :
    ({ p.reach .command i with
        last := ⟨BitVec.ofNat 8 i, channel, result, (p.reach .command i).last.count + 1⟩ } : Port).committed .command i
      = p.afterCommand i channel result := by
  have hnext : nextIndex .command i = if i = 6 then 0 else i + 1 := by
    by_cases h6 : i = 6
    · rw [if_pos h6, nextIndex, if_neg (by simp [Space.records, h6])]
    · rw [if_neg h6, nextIndex, if_pos (by simp only [Space.records]; omega)]
  simp only [Port.committed, Port.reach, Port.afterCommand, Port.afterRecord, hnext]
  split <;> rfl

/-! ## The reserve commands (R56, R57) -/

/-- A command that leaves the port to the last-command record. -/
theorem State.command_eq {i : Nat} (hi : i < 7) {s u : State} {channel : Byte} {effect : State → State × CommandResult}
    {result : CommandResult} (h : effect { s with port := s.port.reach .command i } = (u, result))
    (hu : u.port = s.port.reach .command i) :
    s.command i channel effect = { u with port := s.port.afterCommand i channel (resultCode result) } := by
  simp only [State.command, State.commitAt, h, State.noteCommand, hu]
  rw [Port.committed_command hi]

/-- Settles O19: the two commands' effects on the reserve, and the port after a command. -/
theorem reserveCommandsSetAndClear : Obligations.ReserveCommandsSetAndClear := by
  intro s argument hp hr
  refine ⟨?_, { s with reserve := .atPowerOn, port := s.port.afterCommand 3 0xFF 0x01 }, ?_, rfl, rfl, rfl, rfl, rfl⟩
  · refine (whenAnswering_of hp hr _).trans ?_
    rw [State.command_eq (by decide) rfl rfl]
    rfl
  · refine (whenAnswering_of hp hr _).trans ?_
    rw [State.command_eq (by decide) rfl rfl]
    rfl

/-! ## The meter profile (R41, R58, R59) -/

theorem clamp_zero (hi v : Nat) : max 0 (min hi v) = min v hi := by omega

theorem clamp_half (h : Half) : max 0 (min 65535 h.toNat) = h.toNat := by
  have := h.isLt
  omega

section
variable {s : State}

theorem State.commitMeter_of_setup (hs : s.setup.level = true) (mask : Option Wide) (w : MeterWords) :
    s.commitMeter mask w = s.takeMeter ((meterOfWords w).proposed mask s.meter) := if_pos hs

theorem State.commitMeter_of_released (hs : s.setup.level = false) (mask : Option Wide) (w : MeterWords) :
    s.commitMeter mask w = s.refuseIf (decide ((meterOfWords w).proposed mask s.meter ≠ s.meter)) :=
  if_neg (by simp [hs])

/-- A commit of a profile record whose effect takes the profile. -/
theorem State.maskedCommit_profile (index : Nat) (effect : Option Wide → State → State)
    {u : State} (h : effect s.port.mask { s with port := s.port.reach .profile index } =
      { u with port := s.port.reach .profile index }) :
    s.maskedCommit .profile index effect =
      { u with port := { s.port.afterRecord .profile index (nextIndex .profile index) with mask := none } } := by
  simp only [State.maskedCommit, State.commitAt, h]
  rw [Port.committed_reach_same (.inr rfl)]

/-- A commit of a profile record whose effect refuses or leaves it. -/
theorem State.maskedCommit_profile_refused (index : Nat) (effect : Option Wide → State → State) {b : Bool}
    (h : effect s.port.mask { s with port := s.port.reach .profile index } =
      State.refuseIf b { s with port := s.port.reach .profile index }) :
    s.maskedCommit .profile index effect =
      { s with port := { s.port.afterRecord .profile index (nextIndex .profile index) with
        mask := none, refusedMark := s.port.refusedMark || b } } := by
  simp only [State.maskedCommit, State.commitAt, h, State.refuseIf_eq]
  rw [Port.committed_reach_refused (.inr rfl)]

end

/-- Settles O20: the proposed profile written out, taken or refused. -/
theorem meterProfileCommitTakesOrRefuses : Obligations.MeterProfileCommitTakesOrRefuses := by
  intro s d hp hr named pick p
  have hproposed : (meterOfWords (meterWordsOf d)).proposed s.port.mask s.meter = p := by
    simp only [p, pick, clamp_half]
    simp only [clamp_zero]
    rfl
  refine ⟨fun hs => ?_, fun hs => ?_⟩ <;> refine (whenAnswering_of hp hr _).trans (congrArg _ ?_)
  · refine (State.maskedCommit_profile (u := s.takeMeter p) 0 _ ?_).trans rfl
    refine (State.commitMeter_of_setup (s := { s with port := s.port.reach .profile 0 }) hs _ _).trans ?_
    exact congrArg (fun m => State.takeMeter m { s with port := s.port.reach .profile 0 }) hproposed
  · refine State.maskedCommit_profile_refused 0 _ ?_
    refine (State.commitMeter_of_released (s := { s with port := s.port.reach .profile 0 }) hs _ _).trans ?_
    exact congrArg (fun m => State.refuseIf (decide (m ≠ s.meter)) { s with port := s.port.reach .profile 0 }) hproposed

/-! ## The budget profile (R69 to R72) -/

theorem keepAbove_eq {top upper lower : Nat} :
    keepAbove top upper lower =
      (if lower < upper then upper else if lower < top then lower + 1 else top,
        if lower < upper then lower else if lower < top then lower else top - 1) := by
  unfold keepAbove
  by_cases h : lower < upper
  · simp [h]
  · by_cases ht : lower < top
    · rw [if_neg h, if_neg (by omega), if_neg h, if_pos ht, if_neg h, if_pos ht]
    · rw [if_neg h, if_pos (by omega), if_neg h, if_neg ht, if_neg h, if_neg ht]

/-- Settles O21: the proposed profile written out and corrected, taken or refused. -/
theorem budgetProfileCommitTakesOrRefuses : Obligations.BudgetProfileCommitTakesOrRefuses := by
  intro s d hp hr named pick p corrected
  have hproposed : (budgetOfWords (budgetWordsOf d)).proposed s.port.mask s.budget = p := by
    have hmax : max 1 (min 65535 (be16 d[8] d[9]).toNat) = max 1 (be16 d[8] d[9]).toNat := by
      have := (be16 d[8] d[9]).isLt
      omega
    simp only [p, pick, clamp_half, hmax]
    simp only [clamp_zero]
    rfl
  have hcorrected : p.corrected = corrected := by
    simp only [Budget.corrected, keepAbove_eq, corrected]
  refine ⟨fun hs => ?_, fun hs => ?_⟩ <;> refine (whenAnswering_of hp hr _).trans (congrArg _ ?_)
  · refine (State.maskedCommit_profile (u := s.takeBudget corrected) 1 _ ?_).trans rfl
    simp only [State.commitBudget]
    rw [if_pos hs]
    exact congrArg (fun b => State.takeBudget b { s with port := s.port.reach .profile 1 })
      ((congrArg Budget.corrected hproposed).trans hcorrected)
  · refine State.maskedCommit_profile_refused 1 _ ?_
    simp only [State.commitBudget]
    rw [if_neg (by simp [hs])]
    exact congrArg (fun b => State.refuseIf (decide (b ≠ s.budget)) { s with port := s.port.reach .profile 1 }) hproposed

/-! ## The rest table (R60) -/

/-- The points of a written record (R184). -/
theorem restWordsOf_get (d : Vector Byte 32) (i : Fin 8) : (restWordsOf d)[i] =
    ⟨be16 d[4 * i.val] d[4 * i.val + 1], be16 d[4 * i.val + 2] d[4 * i.val + 3]⟩ := by
  fin_cases i <;> rfl

/-- Settles O22: the proposed table point by point, taken whole, refused whole, or kept. -/
theorem restTableCommitTakesWholeOrRefuses : Obligations.RestTableCommitTakesWholeOrRefuses := by
  intro s d hp hr named
  refine ⟨proposedRest s.port.mask (restOfWords (restWordsOf d)) s.rest, fun i => ?_, fun hs ho => ?_, fun hs ho => ?_,
    fun hs => ?_⟩
  · simp only [proposedRest, restOfWords, pointOfWords, Fin.getElem_fin, Vector.getElem_ofFn]
    have := restWordsOf_get d i
    simp only [Fin.getElem_fin] at this
    rw [this]
    simp only [min_comm]
    rfl
  all_goals refine (whenAnswering_of hp hr _).trans (congrArg _ ?_)
  · refine (State.maskedCommit_profile (u := { s with rest := proposedRest s.port.mask (restOfWords (restWordsOf d)) s.rest })
      2 _ ?_).trans rfl
    simp only [State.commitRest]
    rw [if_pos hs, if_pos (restOrdered_iff.mpr ho)]
  · refine (State.maskedCommit_profile_refused 2 _ (b := true) ?_).trans (by rw [Bool.or_true]; rfl)
    simp only [State.commitRest]
    rw [if_pos hs, if_neg (fun h => ho (restOrdered_iff.mp h))]
    rfl
  · refine State.maskedCommit_profile_refused 2 _ ?_
    simp only [State.commitRest]
    rw [if_neg (by simp [hs])]

end Sys2Proof.Machine
end

section
/-! PROOFS. What the events at one record do to the engine, the flags and the REFUSED mark, said once, and the whole of an
entry into STANDBY with its essential check, of a deferred cut and of the end of a retry (R100 to R102, R136, R152). -/

namespace Sys2Proof.Machine

/-! ## Frames by the port -/

section
variable {s t : State}

/-- An event that leaves the port leaves all but the records and the engine. -/
theorem State.eq_of_port (h : t.apart = s.apart) (hp : t.port = s.port) :
    t = { s with loads := t.loads, engine := t.engine } := by
  have := State.eq_of_apart h
  rw [hp] at this
  exact this

/-- An event that refuses nothing leaves all but the records, the engine and the flags. -/
theorem State.eq_of_flags (h : t.apart = s.apart) (hr : t.port.refusedMark = s.port.refusedMark) :
    t = { s with loads := t.loads, engine := t.engine, port := { s.port with flags := t.port.flags } } := by
  have := State.eq_of_apart h
  rw [hr] at this
  exact this

/-- An event that sets no flag leaves all but the records, the engine and the REFUSED mark. -/
theorem State.eq_of_refusedMark (h : t.apart = s.apart) (hf : t.port.flags = s.port.flags) :
    t = { s with loads := t.loads, engine := t.engine, port := { s.port with refusedMark := t.port.refusedMark } } := by
  have := State.eq_of_apart h
  rw [hf] at this
  exact this

end

section
variable (s : State) (n : Channel)

/-! ## The port -/

@[simp] theorem State.start_port : (s.start n).port = s.port := (s.start_frame n).1

@[simp] theorem State.essentialCheck_port : (s.essentialCheck n).port = s.port := by
  obtain h | ⟨h, -⟩ := s.essentialCheck_cases n <;> simp [h]

@[simp] theorem State.essentialSweep_port : s.essentialSweep.port = s.port :=
  foldl_keeps State.port (fun t n => t.essentialCheck_port n) _ s

@[simp] theorem State.cutToIdle_port : (s.cutToIdle n).port = s.port := by
  unfold State.cutToIdle; split <;> rfl

@[simp] theorem State.forcedCut_port : (s.forcedCut n).port = s.port := by
  unfold State.forcedCut; split <;> rfl

@[simp] theorem State.forceOffRecord_port : (s.forceOffRecord n).port = s.port := by
  unfold State.forceOffRecord; split <;> simp

@[simp] theorem State.retryExpires_port : (s.retryExpires n).port = s.port := by
  unfold State.retryExpires; split <;> simp

@[simp] theorem State.takeRequestStamp_port : (s.takeRequestStamp n).port = s.port := by simp [State.takeRequestStamp]

@[simp] theorem State.offWhileOn_port : (s.offWhileOn n).port = s.port := by
  unfold State.offWhileOn; split <;> simp

@[simp] theorem State.arriveOff_port : (s.arriveOff n).port = s.port := by
  simp only [State.arriveOff]; split <;> simp

@[simp] theorem State.changeClass_port (new : Nat) : (s.changeClass n new).port = s.port := by
  simp only [State.changeClass]
  split
  · simp
  · split <;> simp
  all_goals simp

/-! ## The REFUSED mark -/

@[simp] theorem State.raise_refusedMark (g : Flag) : (s.raise g).port.refusedMark = s.port.refusedMark := rfl

@[simp] theorem State.budgetCut_refusedMark : (s.budgetCut n).port.refusedMark = s.port.refusedMark := by
  unfold State.budgetCut; split <;> rfl

@[simp] theorem State.deferredCut_refusedMark : (s.deferredCut n).port.refusedMark = s.port.refusedMark := by
  obtain ⟨h, -⟩ | ⟨h, -⟩ := s.deferredCut_cases n <;> simp [h]

@[simp] theorem State.cutIfNoWait_refusedMark : (s.cutIfNoWait n).port.refusedMark = s.port.refusedMark := by
  simp only [State.cutIfNoWait]; split <;> simp

@[simp] theorem State.endHoldWait_refusedMark : (s.endHoldWait n).port.refusedMark = s.port.refusedMark := by
  simp [State.endHoldWait]

@[simp] theorem State.endMinOnWait_refusedMark : (s.endMinOnWait n).port.refusedMark = s.port.refusedMark := by
  simp [State.endMinOnWait]

@[simp] theorem State.moveHold_refusedMark (before : Option HoldLine) :
    (s.moveHold n before).port.refusedMark = s.port.refusedMark := by
  simp only [State.moveHold]; split <;> simp

@[simp] theorem State.tripRecord_refusedMark : (s.tripRecord n).port.refusedMark = s.port.refusedMark := by
  simp only [State.tripRecord]; split <;> rfl

@[simp] theorem State.releaseHold_refusedMark (h : HoldLine) :
    (s.releaseHold h).port.refusedMark = s.port.refusedMark := by
  unfold State.releaseHold
  refine foldl_keeps (fun t : State => t.port.refusedMark) (fun t n => ?_) channels s
  split <;> simp

end

theorem Walk.candidate_refusedMark (w : Walk) (n : Channel) :
    (w.candidate n).part.port.refusedMark = w.part.port.refusedMark := by
  unfold Walk.candidate
  split
  · split
    · exact w.part.budgetCut_refusedMark n
    · rfl
  · rfl

theorem Walk.depletedRecord_refusedMark (w : Walk) (n : Channel) :
    (w.depletedRecord n).part.port.refusedMark = w.part.port.refusedMark := by
  simp only [Walk.depletedRecord]
  split
  · split
    · rfl
    · exact State.budgetCut_refusedMark _ n
  · rfl

theorem Walk.deficitWalk_refusedMark (w : Walk) : w.deficitWalk.part.port.refusedMark = w.part.port.refusedMark := by
  unfold Walk.deficitWalk
  split
  · exact foldl_keeps (fun w : Walk => w.part.port.refusedMark) Walk.candidate_refusedMark _ w
  · rfl

theorem Walk.depletedStage_refusedMark (w : Walk) : w.depletedStage.part.port.refusedMark = w.part.port.refusedMark := by
  unfold Walk.depletedStage
  split
  · exact foldl_keeps (fun w : Walk => w.part.port.refusedMark) Walk.depletedRecord_refusedMark _ w
  · rfl

theorem Walk.restore_port (w : Walk) : w.restore.port = w.part.port := by
  unfold Walk.restore
  split
  · split
    · exact w.part.start_port _
    · rfl
  · rfl

theorem State.setLevel_refusedMark (s : State) : s.setLevel.port.refusedMark = s.port.refusedMark := by
  simp only [State.setLevel]; split <;> rfl

theorem State.evaluate_refusedMark (s : State) : s.evaluate.port.refusedMark = s.port.refusedMark :=
  calc s.evaluate.port.refusedMark
    _ = s.beforeLevel.port.refusedMark := s.beforeLevel.setLevel_refusedMark
    _ = (Walk.deficitWalk ⟨s.formAllowance, _, false⟩).depletedStage.part.port.refusedMark :=
      congrArg Port.refusedMark (Walk.restore_port _)
    _ = (Walk.deficitWalk ⟨s.formAllowance, _, false⟩).part.port.refusedMark := Walk.depletedStage_refusedMark _
    _ = s.port.refusedMark := Walk.deficitWalk_refusedMark _

/-! ## Insertion (R93) -/

theorem insertBy_perm (before : Channel → Channel → Bool) (n : Channel) (l : List Channel) :
    (insertBy before n l).Perm (n :: l) := by
  induction l with
  | nil => exact .refl _
  | cons m l ih =>
    rw [insertBy]
    split
    · exact .refl _
    · exact (ih.cons m).trans (.swap n m l)

theorem mem_insertBy {before : Channel → Channel → Bool} {n m : Channel} {l : List Channel} :
    m ∈ insertBy before n l ↔ m = n ∨ m ∈ l := by
  rw [(insertBy_perm before n l).mem_iff, List.mem_cons]

theorem erase_insertBy {before : Channel → Channel → Bool} {n : Channel} {l : List Channel} (h : n ∉ l) :
    (insertBy before n l).erase n = l := by
  induction l with
  | nil => simp [insertBy]
  | cons m l ih =>
    obtain ⟨hm, hl⟩ : n ≠ m ∧ n ∉ l := by simpa using h
    rw [insertBy]
    split
    · rw [List.erase_cons_head]
    · rw [List.erase_cons_tail (by simpa using hm.symm), ih hl]

/-! ## The engine (R92 to R94, R100) -/

section
variable {s : State} {n : Channel}

theorem State.engine_enterStandby (s : State) (n : Channel) :
    (s.enterStandby n).engine = { s.engine with standbyList := (s.enterStandby n).engine.standbyList } := rfl

theorem State.standbyList_enterStandby (s : State) (n : Channel) :
    (s.enterStandby n).engine.standbyList.Perm (n :: s.engine.standbyList) := insertBy_perm _ n _

theorem State.engine_cutToIdle (h : (s.load n).on = true) :
    (s.cutToIdle n).engine = { s.engine with runList := s.engine.runList.erase n } := by
  rw [State.cutToIdle, if_pos h]
  rfl

theorem State.engine_forcedCut (h : (s.load n).on = true) :
    (s.forcedCut n).engine = { s.engine with
      runList := s.engine.runList.erase n, standbyList := (s.forcedCut n).engine.standbyList }
    ∧ (s.forcedCut n).engine.standbyList.Perm (n :: s.engine.standbyList) := by
  rw [State.forcedCut, if_pos h]
  exact ⟨rfl, insertBy_perm _ n _⟩

theorem State.engine_budgetCut (h : (s.load n).on = true) :
    (s.budgetCut n).engine = { s.engine with
      runList := s.engine.runList.erase n, standbyList := (s.budgetCut n).engine.standbyList
      holdOff := s.budget.cutHoldOff }
    ∧ (s.budgetCut n).engine.standbyList.Perm (n :: s.engine.standbyList) := by
  rw [State.budgetCut, if_pos h]
  exact ⟨rfl, insertBy_perm _ n _⟩

theorem State.flags_budgetCut (h : (s.load n).on = true) : (s.budgetCut n).port.flags = s.port.flags ||| 0x01 := by
  rw [State.budgetCut, if_pos h]
  rfl

/-! ## The cut of a DEFERRED record by its cause (R101, R136) -/

/-- The cut of a record whose last wait an event has ended, with the end of that event. -/
theorem State.cutsDeferred_deferredCut {u : State} {flags : Byte} (hon : (s.load n).on = true)
    (hload : (s.load n).cutByCause s.forceOff.level = (u.load n).cutByCause u.forceOff.level)
    (hreason : (s.load n).reason = (u.load n).reason) (ha : s.apart = u.apart) (he : s.engine = u.engine)
    (hr : s.port.refusedMark = u.port.refusedMark) (hf : s.port.flags = flags) :
    u.cutsDeferred n flags (s.deferredCut n).sweepWindows := by
  have hcut := State.load_deferredCut_self hon
  have hclosed : ((s.deferredCut n).load n).window = .closed := by
    rw [hcut, Load.cutByCause]
    split <;> rfl
  refine ⟨?_, State.eq_of_flags (by simp [ha]) (by simp [hr]), fun hoff => ?_, fun hoff => ?_⟩
  · rw [State.load_sweepWindows_of_closed hclosed, hcut, hload]
  · obtain ⟨hc, -⟩ | ⟨-, hne⟩ := s.deferredCut_cases n
    · rw [hc, State.sweepWindows_port, State.cutToIdle_port, State.sweepWindows_engine, State.engine_cutToIdle hon, he]
      exact ⟨hf, rfl⟩
    · exact absurd (hreason.trans hoff) hne
  · obtain ⟨-, he'⟩ | ⟨hc, -⟩ := s.deferredCut_cases n
    · exact absurd (hreason.symm.trans he') hoff
    · obtain ⟨heng, hperm⟩ := State.engine_budgetCut hon
      rw [hc, State.sweepWindows_port, State.sweepWindows_engine, State.flags_budgetCut hon, hf]
      refine ⟨rfl, ?_, he ▸ hperm⟩
      rw [← State.budget_of_apart ha, ← he]
      exact heng

/-! ## An entry into STANDBY with its essential check (R18, R93, R102) -/

theorem State.eligible_iff {s : State} {r : Load} :
    s.eligible r = true ↔ s.forceOff.level = false ∧ r.minOff ≤ r.dwell := by
  simp [State.eligible]

theorem State.essentialCheck_of {s : State} {n : Channel} (hs : (s.load n).state = .standby) (hc : (s.load n).cls = 0)
    (he : s.eligible (s.load n) = true) : s.essentialCheck n = s.start n := by
  simp [State.essentialCheck, hs, hc, he]

theorem State.essentialCheck_of_not {s : State} {n : Channel}
    (h : ¬((s.load n).cls = 0 ∧ s.eligible (s.load n) = true ∧ s.engine.exhausted = false)) :
    s.essentialCheck n = s := by
  obtain hc | ⟨hc, -, hcls, he⟩ := s.essentialCheck_cases n
  · exact hc
  · rw [hc]
    exact s.start_refused fun ⟨_, hx⟩ => h ⟨hcls, he, hx⟩

/-- A start made leaves its own line high, and the others. -/
theorem State.start_outputs (hs : (s.load n).state = .standby) (hx : s.engine.exhausted = false) :
    (s.start n).outputs = s.linesAfterStart n := by
  apply Vector.ext
  intro i hi
  simp only [State.outputs, State.linesAfterStart, Vector.getElem_ofFn, s.load_start hs hx]
  split
  · simp [Load.on, Load.started]
  · rfl

/-- A window that opened on the lines as they stand is left by the end of the event. -/
theorem Window.swept_of_lines (n : Channel) (before : Int) (valid : Bool) (dir : Direction) (now : Vector Bool 12) :
    (Window.settling ⟨before, valid, dir, now⟩).swept n now = .settling ⟨before, valid, dir, now⟩ := by
  simp [Window.swept, Window.opening, Opening.spoiled]

/-- The whole record of a start at the end of its event (R98). -/
theorem State.load_start_sweep (hs : (s.load n).state = .standby) (hx : s.engine.exhausted = false) :
    (s.start n).sweepWindows.load n =
      (s.load n).startsNow s.engine.seq s (s.start n).sweepWindows := by
  have hout := State.start_outputs hs hx
  rw [State.load_sweepWindows, s.load_start hs hx, if_pos rfl]
  simp only [Load.startsNow, Load.started, State.sweepWindows_outputs, hout]
  split
  · rw [Window.swept_of_lines]
  · rw [Window.swept_closed]

/-- The event that ends with an entry into STANDBY and the essential check, from the state v in which the record and the
engine stand as given. -/
theorem State.entersStandby_of {s v : State} {n : Channel} {r : Load} {e : Engine} (ha : v.apart = s.apart)
    (hr : v.load n = r) (he : v.engine = e) (hn : n ∉ e.standbyList) :
    s.entersStandby n r e ((v.enterStandby n).essentialCheck n).sweepWindows := by
  have hforce : v.forceOff = s.forceOff := State.forceOff_of_apart ha
  have hsense : v.sense = s.sense := State.sense_of_apart ha
  have hload : (v.enterStandby n).load n =
      { r with state := .standby, reason := r.reasonAtEntry s.forceOff.level, retryTimer := none } := by
    rw [v.load_enterStandby, if_pos rfl, hr, State.entryReason, hforce]
  have helig : (v.enterStandby n).eligible ((v.enterStandby n).load n) = true ↔
      s.forceOff.level = false ∧ r.minOff ≤ r.dwell := by
    rw [State.eligible_iff, hload, v.enterStandby_forceOff, hforce]
  have hengine : (v.enterStandby n).engine = { e with standbyList := (v.enterStandby n).engine.standbyList } := by
    rw [v.engine_enterStandby n, he]
  refine ⟨fun ⟨hc, hf, hd, hx⟩ => ?_, fun hnot => ?_⟩
  · have hs : ((v.enterStandby n).load n).state = .standby := by rw [hload]
    have hx : (v.enterStandby n).engine.exhausted = false := by rw [hengine]; exact hx
    rw [State.essentialCheck_of hs (by rw [hload]; exact hc) (helig.mpr ⟨hf, hd⟩), State.load_start_sweep hs hx, hload,
      State.sweepWindows_engine, State.engine_start hs hx]
    have hlist : (v.enterStandby n).engine.standbyList.erase n = e.standbyList := by
      rw [← he]
      exact erase_insertBy (he ▸ hn)
    have hseq : (v.enterStandby n).engine.seq = e.seq := by rw [hengine]
    constructor
    · rw [hseq]
      simp only [Load.startsNow, State.enterStandby_sense, hsense]
    · rw [hlist, hengine]
      unfold Engine.stamped
      split <;> rfl
  · have hcheck : (v.enterStandby n).essentialCheck n = v.enterStandby n := by
      refine State.essentialCheck_of_not fun ⟨hc, hel, hx⟩ => hnot ?_
      rw [hload] at hc
      rw [hengine] at hx
      exact ⟨hc, (helig.mp hel).1, (helig.mp hel).2, hx⟩
    rw [hcheck, State.sweepWindows_engine]
    exact ⟨Load.sameButWindow_sweepWindows hload, hengine, he ▸ v.standbyList_enterStandby n⟩

/-! ## The end of a retry (R152) -/

/-- The end of the retry of a record that stands as r, with the end of its event. -/
theorem State.endsRetry_of {s v : State} {n : Channel} {r : Load} (ha : v.apart = s.apart) (hr : v.load n = r)
    (he : v.engine = s.engine) (hn : n ∉ s.engine.standbyList) : s.endsRetry n r (v.retryExpires n).sweepWindows := by
  unfold State.retryExpires
  rw [hr]
  refine ⟨fun hreq => ?_, fun hreq => ?_⟩
  · rw [if_pos hreq]
    exact State.entersStandby_of ha hr he hn
  · rw [if_neg (by simp [hreq])]
    refine ⟨he, Load.sameButWindow_sweepWindows ?_⟩
    rw [v.load_modify_self, hr]
    rfl

end

end Sys2Proof.Machine
end

section
/-! PROOFS. The commands of a second tick, of the lines and of the faults (R22, R99, R129 to R136, R145 to R153). -/

namespace Sys2Proof.Machine

section
variable {s : State} {w : TickWork}

/-- A command of a tick whose work is due. -/
theorem whenPowered_takeWork (hp : s.powered = true) (hd : w ∈ s.due) (f : State → State) :
    whenPowered s (s.takeWork w f) = .next (f (s.workTaken w)) := by rw [whenPowered_of hp, s.takeWork_of hd]

/-- A command whose event is not due changes nothing (log 1). -/
theorem whenPowered_undue {p : Prop} [Decidable p] (h : ¬p) (u : State) :
    whenPowered s (if p then u else s) = .next s := by rw [if_neg h, whenPowered, ite_self]

theorem whenPowered_due {p : Prop} [Decidable p] (hp : s.powered = true) (h : p) (u : State) :
    whenPowered s (if p then u else s) = .next u := by rw [if_pos h, whenPowered_of hp]

end

/-- A change of one record that leaves it is none. -/
theorem State.modify_of_eq {s : State} {n : Channel} {f : Load → Load} (h : f (s.load n) = s.load n) :
    s.modify n f = s := by
  have hl : s.loads.set n (f (s.load n)) = s.loads := by
    rw [h]
    exact Vector.set_getElem_self _
  rw [State.modify, hl]

/-! ## The evaluation's allowance (R62 to R66) -/

/-- Settles O24: E1 forms the allowance, which no later stage touches, and no stage acts beside the records, the engine and
the flags. -/
theorem evaluationFormsAllowance : Obligations.EvaluationFormsAllowance := by
  intro s hp
  refine ⟨fun hd hr => ?_, fun hd hr hb => ?_⟩
  · refine (whenPowered_takeWork hp hd _).trans ?_
    rw [if_neg (by simp [hr])]
    rfl
  · intro top fromVoltage fromReserve
    have hallowance : (s.workTaken .evaluation).evaluate.engine.allowance = s.budget.combined s.fraction s.sense.pub.comp :=
      State.allowance_of_apart (s := (s.workTaken .evaluation).formAllowance) (State.evaluate_apart _)
    refine ⟨_, exec_evaluation_of_due hp hd hr, fun hq => ?_, fun q hq => ?_, ?_, ?_⟩
    · rw [hallowance, State.fraction, hq]
      rfl
    · rw [hallowance, State.fraction, hq]
      rfl
    · rw [hallowance]
      exact Budget.combined_le ..
    · exact State.eq_of_flags (s := (s.workTaken .evaluation).formAllowance) (State.evaluate_apart _)
        (State.evaluate_refusedMark _)

/-! ## Dwell, settle and clean run (R22, R99, R153) -/

theorem Load.settleTick_of_not {r : Load} (h : r.state ≠ .starting) : r.settleTick = r := if_neg h

theorem Load.cleanRunTick_of_not {r : Load} (h : r.state ≠ .running) : r.cleanRunTick = r := if_neg h

/-- The clean-run count passes 300 at 299 alone (R153). -/
theorem Load.cleanRunTick_of {r : Load} (h : r.state = .running) :
    r.cleanRunTick = { r with
      cleanRun := min (r.cleanRun + 1) 300, retriesUsed := if r.cleanRun = 299 then 0 else r.retriesUsed } := by
  have hpass : (r.cleanRun < 300 ∧ min (r.cleanRun + 1) 300 = 300) ↔ r.cleanRun = 299 := by omega
  simp only [Load.cleanRunTick, if_pos h, hpass]

theorem Load.dwellTick_eq (r : Load) :
    r.dwellTick = if r.state = .vacant then r else { r with dwell := min (r.dwell + 1) 65535 } := by
  unfold Load.dwellTick Load.enrolled
  by_cases h : r.state = .vacant <;> simp [h]

/-- Settles O32: each part of a second tick takes its piece and makes its count. -/
theorem secondTickStepsDwellSettleAndCleanRun : Obligations.SecondTickStepsDwellSettleAndCleanRun := by
  intro s n hp r
  refine ⟨fun hd => ⟨_, whenPowered_takeWork hp hd _, rfl, fun m => ?_⟩,
    fun hd => ⟨fun hs hlt => ?_, fun hs hle => ?_, fun hs => ?_⟩, fun hd => ⟨fun hs => ?_, fun hs => ?_⟩⟩
  · rw [State.load_mapLoads]
    exact Load.dwellTick_eq _
  all_goals refine (whenPowered_takeWork hp hd _).trans (congrArg _ ?_)
  · have htick : r.settleTick = { r with settleTimer := r.settleTimer - 1 } := by
      rw [Load.settleTick, if_pos hs, if_neg (by omega)]
    exact congrArg (fun a => (s.workTaken (.settle n)).withLoad n a) htick
  · have htick : r.settleTick = { r with
        state := .running, settleTimer := 0, cleanRun := 0, window := r.window.settleEnded } := by
      rw [Load.settleTick, if_pos hs, if_pos hle]
    have hwindow : r.window.settleEnded =
        match r.window with | .closed => .closed | .settling o => .closing o | .closing o => .closing o := by
      cases r.window <;> rfl
    rw [hwindow] at htick
    exact congrArg (fun a => (s.workTaken (.settle n)).withLoad n a) htick
  · exact State.modify_of_eq (Load.settleTick_of_not hs)
  · exact congrArg (fun a => (s.workTaken (.cleanRun n)).withLoad n a) (Load.cleanRunTick_of hs)
  · exact State.modify_of_eq (Load.cleanRunTick_of_not hs)

/-! ## The ends of waits (R132, R134 to R136) -/

section
variable {s : State} {n : Channel}

theorem Load.waitHold_of_not_deferred {r : Load} (h : r.lawful) (hs : r.state ≠ .deferred) :
    r.waitHold = false ∧ r.waitMinOn = false := by
  obtain ⟨-, -, -, ⟨hwait, -⟩, -⟩ := h
  have hnone : (r.waitHold || r.waitMinOn) = false := by rw [hwait, beq_eq_false_iff_ne]; exact hs
  simpa using hnone

theorem State.holdLimitTick_of_not (h : (s.load n).waitHold = false) : s.holdLimitTick n = s := by
  simp [State.holdLimitTick, h]

theorem State.holdLimitTick_of_running (h : (s.load n).waitHold = true) (hk : 1 < (s.load n).holdTimer) :
    s.holdLimitTick n = s.modify n fun r => { r with holdTimer := r.holdTimer - 1 } := by
  simp only [State.holdLimitTick]
  rw [if_pos h, if_neg (by omega)]

theorem State.holdLimitTick_of_end (h : (s.load n).waitHold = true) (hk : (s.load n).holdTimer ≤ 1) :
    s.holdLimitTick n = ((s.raise .holdExpired).endHoldWait n).sweepWindows := by
  simp only [State.holdLimitTick]
  rw [if_pos h, if_pos hk]

theorem State.minOnCheck_of_not (h : (s.load n).waitMinOn = false ∨ (s.load n).dwell < (s.load n).minOn) :
    s.minOnCheck n = s := by
  simp only [State.minOnCheck]
  refine if_neg fun hc => ?_
  rw [Bool.and_eq_true, decide_eq_true_eq] at hc
  obtain h | h := h
  · simp [h] at hc
  · omega

theorem State.minOnCheck_of (h : (s.load n).waitMinOn = true) (hk : (s.load n).minOn ≤ (s.load n).dwell) :
    s.minOnCheck n = (s.endMinOnWait n).sweepWindows := by
  simp [State.minOnCheck, h, hk]

/-- The end of a hold wait of a record that has another wait left is a change of that record (R136). -/
theorem State.endHoldWait_of_wait (h : (s.load n).waitMinOn = true) :
    s.endHoldWait n = s.modify n fun r => { r with waitHold := false, holdTimer := 0 } := by
  simp [State.endHoldWait, State.cutIfNoWait, h]

theorem State.endHoldWait_of_cut (hs : (s.load n).state = .deferred) (h : (s.load n).waitMinOn = false) :
    s.endHoldWait n = (s.modify n fun r => { r with waitHold := false, holdTimer := 0 }).deferredCut n := by
  simp [State.endHoldWait, State.cutIfNoWait, h, hs]

theorem State.endMinOnWait_of_wait (h : (s.load n).waitHold = true) :
    s.endMinOnWait n = s.modify n fun r => { r with waitMinOn := false } := by
  simp [State.endMinOnWait, State.cutIfNoWait, h]

theorem State.endMinOnWait_of_cut (hs : (s.load n).state = .deferred) (h : (s.load n).waitHold = false) :
    s.endMinOnWait n = (s.modify n fun r => { r with waitMinOn := false }).deferredCut n := by
  simp [State.endMinOnWait, State.cutIfNoWait, h, hs]

/-- The end of a DEFERRED record's last wait, a hold wait, with the end of its event. -/
theorem State.cutsDeferred_endHoldWait {u : State} {flags : Byte} (hs : (s.load n).state = .deferred)
    (h : (s.load n).waitMinOn = false) (hl : s.load n = u.load n) (ha : s.apart = u.apart) (he : s.engine = u.engine)
    (hr : s.port.refusedMark = u.port.refusedMark) (hf : s.port.flags = flags) :
    u.cutsDeferred n flags (s.endHoldWait n).sweepWindows := by
  have hforce : s.forceOff = u.forceOff := State.forceOff_of_apart ha
  rw [State.endHoldWait_of_cut hs h]
  refine State.cutsDeferred_deferredCut ?_ ?_ ?_ ha he hr hf
  · rw [s.load_modify_self]
    exact Load.on_of_deferred hs
  · rw [s.load_modify_self, ← hl, s.modify_forceOff, hforce]
  · rw [s.load_modify_self, ← hl]

theorem State.cutsDeferred_endMinOnWait {u : State} {flags : Byte} (hs : (s.load n).state = .deferred)
    (h : (s.load n).waitHold = false) (hl : s.load n = u.load n) (ha : s.apart = u.apart) (he : s.engine = u.engine)
    (hr : s.port.refusedMark = u.port.refusedMark) (hf : s.port.flags = flags) :
    u.cutsDeferred n flags (s.endMinOnWait n).sweepWindows := by
  have hforce : s.forceOff = u.forceOff := State.forceOff_of_apart ha
  rw [State.endMinOnWait_of_cut hs h]
  refine State.cutsDeferred_deferredCut ?_ ?_ ?_ ha he hr hf
  · rw [s.load_modify_self]
    exact Load.on_of_deferred hs
  · rw [s.load_modify_self, ← hl, s.modify_forceOff, hforce]
  · rw [s.load_modify_self, ← hl]

end

/-- Settles O33: the two waits' ends, each by what is left of the record's waits. -/
theorem waitEndsCutWhenNoWaitIsLeft : Obligations.WaitEndsCutWhenNoWaitIsLeft := by
  intro s n hp r
  refine ⟨fun hd => ?_, fun hd => ?_⟩
  · intro u
    have hexec : exec (.holdLimitExpiry n) s = .next (u.holdLimitTick n) := whenPowered_takeWork hp hd _
    have hnone : r.waitHold = false → exec (.holdLimitExpiry n) s = .next u := fun h => by
      rw [hexec, State.holdLimitTick_of_not (s := u) h]
    refine ⟨hnone, fun hs hl => hnone (Load.waitHold_of_not_deferred (hl n) hs).1, fun hs hw hk => ?_, fun hs hw hk => ?_⟩
    · rw [hexec, State.holdLimitTick_of_running (s := u) hw hk]
      rfl
    · rw [State.holdLimitTick_of_end (s := u) hw hk] at hexec
      refine ⟨_, hexec, State.othersSame_sweepWindows (by simp; rfl), fun hm => ?_, fun hm => ?_⟩
      · rw [State.endHoldWait_of_wait (s := u.raise .holdExpired) hm]
        refine ⟨rfl, Load.sameButWindow_sweepWindows ?_⟩
        rw [State.load_modify_self]
        rfl
      · exact State.cutsDeferred_endHoldWait (s := u.raise .holdExpired) hs hm rfl rfl rfl rfl rfl
  · intro u
    have hexec : exec (.minOnReached n) s = .next (u.minOnCheck n) := whenPowered_takeWork hp hd _
    have hnone : r.waitMinOn = false ∨ r.dwell < r.minOn → exec (.minOnReached n) s = .next u := fun h => by
      rw [hexec, State.minOnCheck_of_not (s := u) h]
    refine ⟨hnone, fun hs hl => hnone (.inl (Load.waitHold_of_not_deferred (hl n) hs).2), fun hs hw hk => ?_⟩
    rw [State.minOnCheck_of (s := u) hw hk] at hexec
    refine ⟨_, hexec, State.othersSame_sweepWindows (by simp; rfl), fun hm => ?_, fun hm => ?_⟩
    · rw [State.endMinOnWait_of_wait (s := u) hm]
      refine ⟨rfl, Load.sameButWindow_sweepWindows ?_⟩
      rw [State.load_modify_self]
      rfl
    · exact State.cutsDeferred_endMinOnWait (s := u) hs hm rfl rfl rfl rfl rfl

/-! ## The end of a retry (R152, R154) -/

/-- Settles O34: the retry countdown of a TRIPPED record that holds a timer, and its end. -/
theorem retryExpiryLeavesTripped : Obligations.RetryExpiryLeavesTripped := by
  intro s n hp hd hlist r u
  have hexec : exec (.retryExpiry n) s = .next (u.retryTick n) := whenPowered_takeWork hp hd _
  refine ⟨fun h => ?_, fun k hs hk => ?_⟩
  · rw [hexec]
    simp only [State.retryTick]
    split
    · next hs hk =>
      obtain h | h := h
      · exact absurd hs h
      · exact absurd (h.symm.trans hk) nofun
    · rfl
  · have htick : u.retryTick n = if k ≤ 1 then (u.retryExpires n).sweepWindows
        else u.modify n fun r => { r with retryTimer := some (k - 1) } := by
      have hs : (u.load n).state = .tripped := hs
      have hk : (u.load n).retryTimer = some k := hk
      simp only [State.retryTick, hs, hk]
    refine ⟨fun hlt => ?_, fun hle => ?_⟩
    · rw [hexec, htick, if_neg (by omega)]
      rfl
    · rw [htick, if_pos hle] at hexec
      have hn : n ∉ s.engine.standbyList := fun hm => by
        have := (hlist.2.1 n).mp hm
        exact absurd (hs.symm.trans this) nofun
      refine ⟨_, hexec, State.othersSame_sweepWindows (by simp; rfl),
        State.eq_of_port (s := u) (by simp) (by simp), ?_⟩
      exact State.endsRetry_of (s := u) (v := u) rfl rfl rfl hn

end Sys2Proof.Machine
end

section
/-! PROOFS. The line tick, the changes of filtered levels, FORCE_OFF and the trips (R7, R76, R129, R133, R145 to R151). -/

namespace Sys2Proof.Machine

/-! ## The line tick (R7, R76, R89, R129, R145, R149) -/

theorem State.firstTick_iff {s : State} : s.firstTick = true ↔ s.startup.ready = false ∧ s.startup.ticks = 0 := by
  simp [State.firstTick]

theorem State.debounceNow_eq (s : State) :
    s.debounceNow = if s.startup.ready = false ∧ s.startup.kept = none then 30 else s.budget.debounce := by
  simp only [State.debounceNow, Bool.and_eq_true, Bool.not_eq_true', Option.isNone_iff_eq_none]

section
variable (s : State) (l : LineLevels)

theorem State.lineTick_switches (n : Channel) : (s.lineTick l).switches[n] =
    if s.firstTick then ⟨linePressed l n, 0, false⟩ else s.switches[n].tick s.debounceNow (linePressed l n) := by
  simp only [State.lineTick, State.mapLoads_switches, Fin.getElem_fin, Vector.getElem_ofFn]

theorem State.lineTick_holds (h : HoldLine) : (s.lineTick l).holds[h] = s.holds[h].tick (lineHolding l h) := by
  simp only [State.lineTick, State.mapLoads_holds, Fin.getElem_fin, Vector.getElem_ofFn]

theorem State.lineTick_forceOff : (s.lineTick l).forceOff =
    if s.firstTick then ⟨lineForcing l, 0⟩ else s.forceOff.tick (lineForcing l) := rfl

end

theorem SwitchLine.tick_of_eq {d : Nat} {raw : Bool} {w : SwitchLine} (h : raw = w.pressed) :
    w.tick d raw = ⟨w.pressed, 0, false⟩ := if_pos h

theorem SwitchLine.tick_of_ne {d : Nat} {raw : Bool} {w : SwitchLine} (h : raw ≠ w.pressed) :
    w.tick d raw = ⟨w.pressed, min (w.run + 1) 250, decide (d ≤ min (w.run + 1) 250)⟩ := if_neg h

theorem Load.diagTick_eq (faulty : Bool) (r : Load) : r.diagTick faulty =
    if r.on = false then r
    else if 0 < r.blanking then { r with blanking := r.blanking - 1 }
    else { r with diagRun := if faulty then min (r.diagRun + 1) 3 else 0 } := by
  unfold Load.diagTick
  by_cases h : r.on = true <;> simp [h]

theorem Filter.due_iff {f : Filter} : f.due = true ↔ f.run = 10 := by simp [Filter.due, filterLength]

/-- Settles O36: the line tick filter by filter, and the two changes of level that act on no record. -/
theorem lineTickCountsSamplesAndLevelsFollow : Obligations.LineTickCountsSamplesAndLevelsFollow := by
  have first_iff : ∀ s : State, (s.workTaken .line).firstTick = true ↔ s.startup.ready = false ∧ s.startup.ticks = 0 :=
    fun s => State.firstTick_iff
  refine ⟨fun s l hp hd => ⟨_, whenPowered_takeWork hp hd _, rfl,
    ⟨fun n => ⟨fun hf => ?_, fun hf heq => ?_, fun hf hne => ?_⟩, fun h => State.lineTick_holds _ l h, rfl, fun hf => ?_,
      fun hf => ?_⟩, fun n => ?_⟩, fun s h hp => ⟨?_, ?_⟩⟩
  · exact (State.lineTick_switches _ l n).trans (if_pos ((first_iff s).mpr hf))
  · exact ((State.lineTick_switches _ l n).trans (if_neg (fun h => hf ((first_iff s).mp h)))).trans (SwitchLine.tick_of_eq heq)
  · refine ((State.lineTick_switches _ l n).trans (if_neg (fun h => hf ((first_iff s).mp h)))).trans ?_
    rw [State.debounceNow_eq]
    exact SwitchLine.tick_of_ne hne
  · exact if_pos ((first_iff s).mpr hf)
  · exact if_neg (fun h => hf ((first_iff s).mp h))
  · rw [State.load_lineTick, Load.diagTick_eq, lineFaulty]
    cases l.diag.getLsbD n.val <;> rfl
  · refine (whenPowered_of hp _).trans (congrArg _ ?_)
    by_cases h10 : s.setup.run = 10
    · rw [if_pos (Filter.due_iff.mpr h10), if_pos h10]
      rfl
    · rw [if_neg (fun hd => h10 (Filter.due_iff.mp hd)), if_neg h10]
  · refine (whenPowered_of hp _).trans (congrArg _ ?_)
    by_cases hd : s.holds[h].run = 10 ∧ s.holds[h].level = false
    · rw [if_pos (by rw [Filter.due_iff.mpr hd.1, hd.2]; rfl), if_pos hd, State.holdToggled, Filter.toggled, hd.2]
      rfl
    · rw [if_neg, if_neg hd]
      rw [Bool.and_eq_true, Filter.due_iff]
      simpa using hd

/-! ## A trip (R150, R151) -/

section
variable {s : State} {n : Channel}

theorem State.engine_tripRecord (s : State) (n : Channel) :
    (s.tripRecord n).engine = { s.engine with runList := s.engine.runList.erase n } := by
  simp only [State.tripRecord]; split <;> rfl

theorem Load.tripOff_window (r : Load) : r.tripOff.window = .closed := by
  simp only [Load.tripOff]; split <;> rfl

theorem Load.tripOff_within {r : Load} (h : r.retriesUsed + 1 ≤ r.retryLimit) : r.tripOff =
    { r.outputOff with
      state := .tripped, reason := .none, retriesUsed := r.retriesUsed + 1
      requestStamp := if r.request then r.requestStamp else none
      retryTimer := some (min 3600 (r.retryBase * 2 ^ r.retriesUsed)) } := by
  exact (if_neg (c := r.retryLimit < r.retriesUsed + 1) (Nat.not_lt.mpr h)).trans rfl

theorem Load.tripOff_beyond {r : Load} (h : r.retryLimit < r.retriesUsed + 1) : r.tripOff =
    { r.outputOff with
      state := .locked, reason := .none, retriesUsed := r.retriesUsed + 1, request := false, requestStamp := none
      retryTimer := none } := by
  exact (if_pos (c := r.retryLimit < r.retriesUsed + 1) h).trans rfl

theorem State.flags_tripRecord (s : State) (n : Channel) : (s.tripRecord n).port.flags =
    if (s.load n).retryLimit < (s.load n).retriesUsed + 1 then s.port.flags ||| 0x0C else s.port.flags ||| 0x04 := by
  have hu : ((((s.switchOff n).modify n fun r => { r with retriesUsed := r.retriesUsed + 1 }).raise .trip).load n)
      = { (s.load n).switchedOff with retriesUsed := (s.load n).retriesUsed + 1 } := by
    rw [State.load_raise, State.load_modify_self, State.load_switchOff, if_pos rfl]
    rfl
  simp only [State.tripRecord, hu]
  split
  case isTrue h =>
    refine Eq.trans ?_ (if_pos (c := (s.load n).retryLimit < (s.load n).retriesUsed + 1) h).symm
    exact BitVec.or_assoc ..
  case isFalse h =>
    exact (if_neg (c := (s.load n).retryLimit < (s.load n).retriesUsed + 1) h).symm

end

/-- Settles O39: the record of a trip by its limit, and the engine and the flags after it. -/
theorem tripTripsOrLocks : Obligations.TripTripsOrLocks := by
  intro s n hp r
  refine ⟨fun h => whenPowered_undue ?_ _, fun hon hdiag => ?_⟩
  · rw [Bool.and_eq_true, beq_iff_eq]
    rintro ⟨hon, hdiag⟩
    obtain h | h := h
    · exact absurd (hon.symm.trans h) nofun
    · exact h hdiag
  · have hself : (s.tripRecord n).sweepWindows.load n = r.tripOff := by
      have hload : (s.tripRecord n).load n = r.tripOff := (s.load_tripRecord n n).trans (if_pos rfl)
      rw [State.load_sweepWindows_of_closed (by rw [hload]; exact r.tripOff_window), hload]
    refine ⟨_, whenPowered_due hp (by rw [hon, hdiag]; rfl) _, State.othersSame_sweepWindows (by simp), ?_,
      fun h => ⟨?_, ?_⟩, fun h => ⟨?_, ?_⟩⟩
    · have hframe := State.eq_of_flags (t := (s.tripRecord n).sweepWindows) (s := s) (by simp) (by simp)
      rw [State.sweepWindows_engine, s.engine_tripRecord] at hframe
      exact hframe
    · rw [State.sweepWindows_port, s.flags_tripRecord, if_neg (Nat.not_lt.mpr h)]
    · rw [hself, Load.tripOff_within h]
    · rw [State.sweepWindows_port, s.flags_tripRecord, if_pos h]
    · rw [hself, Load.tripOff_beyond h]

/-! ## An assertion of FORCE_OFF (R146, R163) -/

/-- The engine beside its lists. -/
def Engine.bare (e : Engine) : Engine := { e with runList := [], standbyList := [] }

theorem Engine.eq_of_bare {e f : Engine} (h : e.bare = f.bare) :
    e = { f with runList := e.runList, standbyList := e.standbyList } := by
  have back : e = { e.bare with runList := e.runList, standbyList := e.standbyList } := rfl
  rw [back, h]
  rfl

section
variable (s : State) (n : Channel)

theorem State.forceOffRecord_bare : (s.forceOffRecord n).engine.bare = s.engine.bare := by
  unfold State.forceOffRecord
  split
  · unfold State.cutToIdle; split <;> rfl
  · unfold State.forcedCut; split <;> rfl

theorem State.forceOffRecord_runList : (s.forceOffRecord n).engine.runList =
    if (s.load n).on then s.engine.runList.erase n else s.engine.runList := by
  unfold State.forceOffRecord State.cutToIdle State.forcedCut
  split <;> split <;> simp_all <;> rfl

theorem State.forceOffRecord_standbyList {m : Channel} (h : m ∈ s.engine.standbyList) :
    m ∈ (s.forceOffRecord n).engine.standbyList := by
  unfold State.forceOffRecord
  split
  · unfold State.cutToIdle; split <;> exact h
  · unfold State.forcedCut
    split
    · exact mem_insertBy.mpr (.inr h)
    · exact h

theorem State.forceOffRecord_joins (hon : (s.load n).on = true) (hr : (s.load n).reason ≠ .deferred .requestOff) :
    n ∈ (s.forceOffRecord n).engine.standbyList := by
  unfold State.forceOffRecord
  split
  · next h => exact absurd h hr
  · rw [State.forcedCut, if_pos hon]
    exact mem_insertBy.mpr (.inl rfl)

end

/-- The Run List after the cuts of these records keeps what is no on record of them. -/
theorem State.foldl_forceOffRecord_runList (l : List Channel) {s : State} (hn : s.engine.runList.Nodup) :
    (l.foldl (fun (t : State) n => t.forceOffRecord n) s).engine.runList
      = s.engine.runList.filter fun m => !(l.contains m && (s.load m).on) := by
  induction l generalizing s with
  | nil => simp
  | cons n l ih =>
    have hstep := s.forceOffRecord_runList n
    have hself : ((s.forceOffRecord n).load n).on = true → (s.load n).on = true :=
      fun h => by
        unfold State.forceOffRecord at h
        split at h
        · by_contra hon
          rw [State.cutToIdle, if_neg hon] at h
          exact hon h
        · by_contra hon
          rw [State.forcedCut, if_neg hon] at h
          exact hon h
    have hnodup : (s.forceOffRecord n).engine.runList.Nodup := by
      rw [hstep]
      split
      · exact hn.erase n
      · exact hn
    rw [List.foldl_cons, ih hnodup, hstep]
    by_cases hon : (s.load n).on = true
    · rw [if_pos hon, hn.erase_eq_filter, List.filter_filter]
      refine List.filter_congr fun m _ => ?_
      by_cases hm : m = n
      · subst hm
        simp [hon]
      · rw [State.load_of_others (s.forceOffRecord_others n) hm]
        simp [hm]
    · rw [if_neg hon]
      refine List.filter_congr fun m _ => ?_
      by_cases hm : m = n
      · subst hm
        have := mt hself hon
        simp [hon, this]
      · rw [State.load_of_others (s.forceOffRecord_others n) hm]
        simp [hm]

theorem State.foldl_forceOffRecord_standbyList {n : Channel} {l : List Channel} (hl : n ∈ l) {s : State}
    (hon : (s.load n).on = true) (hr : (s.load n).reason ≠ .deferred .requestOff) :
    n ∈ (l.foldl (fun (t : State) n => t.forceOffRecord n) s).engine.standbyList := by
  have hstays : ∀ (l : List Channel) (t : State), n ∈ t.engine.standbyList →
      n ∈ (l.foldl (fun (t : State) n => t.forceOffRecord n) t).engine.standbyList := fun l => by
    induction l with
    | nil => exact fun _ h => h
    | cons m l ih => exact fun t h => ih _ (t.forceOffRecord_standbyList m h)
  induction l generalizing s with
  | nil => cases hl
  | cons m l ih =>
    rw [List.foldl_cons]
    by_cases hm : n = m
    · subst hm
      exact hstays l _ (s.forceOffRecord_joins n hon hr)
    · have hload := State.load_of_others (s.forceOffRecord_others m) hm
      refine ih ((List.mem_cons.mp hl).resolve_left hm) ?_ ?_ <;> rwa [hload]

/-- The records that an assertion has cut, one after the other. -/
def State.recordsForced (s : State) : State :=
  channels.foldl (fun (t : State) n => t.forceOffRecord n) { s with forceOff := ⟨true, 0⟩ }

theorem State.forceOffAsserted_eq (s : State) :
    s.forceOffAsserted = (s.recordsForced.mapLoads fun _ r => { r with window := .closed }).raise .forceOff := by
  unfold State.forceOffAsserted State.recordsForced
  rfl

theorem State.recordsForced_port (s : State) : s.recordsForced.port = s.port :=
  foldl_keeps State.port (fun t n => t.forceOffRecord_port n) channels { s with forceOff := ⟨true, 0⟩ }

theorem State.recordsForced_bare (s : State) : s.recordsForced.engine.bare = s.engine.bare :=
  foldl_keeps (fun t : State => t.engine.bare) (fun t n => t.forceOffRecord_bare n) channels
    { s with forceOff := ⟨true, 0⟩ }

/-- The cuts of every record empty a Run List that holds the on records. -/
theorem State.foldl_forceOffRecord_empties {s : State} (hn : s.engine.runList.Nodup)
    (hl : ∀ n ∈ s.engine.runList, (s.load n).on = true) :
    (channels.foldl (fun (t : State) n => t.forceOffRecord n) s).engine.runList = [] := by
  rw [State.foldl_forceOffRecord_runList channels hn]
  refine List.filter_eq_nil_iff.mpr fun m hm => ?_
  simp [mem_channels, hl m hm]

theorem State.recordsForced_runList {s : State} (hl : s.listLaw) : s.recordsForced.engine.runList = [] := by
  obtain ⟨hrun, -, hnodup, -⟩ := hl
  unfold State.recordsForced
  exact State.foldl_forceOffRecord_empties hnodup fun n => (hrun n).mp

theorem State.recordsForced_joins {s : State} {n : Channel} (hon : (s.load n).on = true)
    (hr : (s.load n).reason ≠ .deferred .requestOff) : n ∈ s.recordsForced.engine.standbyList := by
  unfold State.recordsForced
  exact State.foldl_forceOffRecord_standbyList (mem_channels n) hon hr

theorem State.forceOffAsserted_port (s : State) : s.forceOffAsserted.port = s.port.withFlag 7 := by
  rw [s.forceOffAsserted_eq, State.raise, State.mapLoads_port, s.recordsForced_port]
  rfl

/-- An assertion empties the Run List, and acts on no count of the engine. -/
theorem State.forceOffAsserted_engine {s : State} (hl : s.listLaw) : s.forceOffAsserted.engine =
    { s.engine with runList := [], standbyList := s.forceOffAsserted.engine.standbyList } := by
  have hengine := Engine.eq_of_bare s.recordsForced_bare
  rw [State.recordsForced_runList hl] at hengine
  rw [s.forceOffAsserted_eq, State.raise_engine, State.mapLoads_engine]
  exact hengine

/-- Settles O38: the records that an assertion makes, the Run List it empties and the flag it sets. -/
theorem forceOffAssertionCutsEveryLoad : Obligations.ForceOffAssertionCutsEveryLoad := by
  intro s hp
  refine ⟨fun h => whenPowered_undue ?_ _, fun hrun hlevel hlist => ?_⟩
  · rw [Bool.and_eq_true, Filter.due_iff, Bool.not_eq_true']
    rintro ⟨hr, hl⟩
    obtain h | h := h
    · exact h hr
    · exact absurd (h.symm.trans hl) nofun
  · refine ⟨s.forceOffAsserted, whenPowered_due hp (by rw [Filter.due_iff.mpr hrun, hlevel]; rfl) _, ?_, fun n => ?_⟩
    · have hframe := State.eq_of_apart s.forceOffAsserted_apart
      rw [State.forceOffAsserted_engine hlist, s.forceOffAsserted_port] at hframe
      rw [← State.forceOffAsserted_engine hlist] at hframe ⊢
      exact hframe
    · have hload := s.load_forceOffAsserted n
      refine ⟨fun hon => ?_, fun hon hr => ?_, fun hon hr => ⟨?_, ?_⟩⟩
      · rw [hload, Load.forcedOff, if_neg (by simp [hon])]
      · rw [hload, Load.forcedOff, if_pos hon, if_pos hr]
      · rw [hload, Load.forcedOff, if_pos hon, if_neg hr]
      · rw [s.forceOffAsserted_eq, State.raise_engine, State.mapLoads_engine]
        exact State.recordsForced_joins hon hr

end Sys2Proof.Machine
end

section
/-! PROOFS. The release of a hold line (R133), the arrivals of requests (R81 to R87), the switch lines (R77) and the commands
on a channel (R154, R166). -/

namespace Sys2Proof.Machine

/-! ## The release of a hold line (R133, R136) -/

theorem Load.waitsOn_iff {h : HoldLine} {r : Load} : r.waitsOn h = true ↔
    r.state = .deferred ∧ r.waitHold = true ∧ r.holdLine = some h := by
  simp [Load.waitsOn, and_assoc]

/-- The end of the hold wait of a record that waits on this line. -/
def State.released (h : HoldLine) (s : State) (n : Channel) : State :=
  if (s.load n).waitsOn h then s.endHoldWait n else s

/-- The release of this line cuts the record as a budget cut. -/
def Load.releaseSheds (h : HoldLine) (r : Load) : Bool :=
  r.waitsOn h && !r.waitMinOn && r.reason != .deferred .requestOff

/-- The record after the release of this line. -/
def Load.afterRelease (h : HoldLine) (forced : Bool) (r : Load) : Load :=
  if r.waitsOn h then (if r.waitMinOn then { r with waitHold := false, holdTimer := 0 } else r.cutByCause forced) else r

section
variable (h : HoldLine) (s : State) (n : Channel)

theorem State.released_others : (s.released h n).others n = s.others n := by
  unfold State.released; split <;> simp

theorem State.released_apart : (s.released h n).apart = s.apart := by
  unfold State.released; split <;> simp

theorem State.load_released : (s.released h n).load n = (s.load n).afterRelease h s.forceOff.level := by
  unfold State.released Load.afterRelease
  split
  case isTrue hw => exact State.load_endHoldWait_self (Load.waitsOn_iff.mp hw).1
  case isFalse => rfl

theorem State.flags_deferredCut (hon : (s.load n).on = true) : (s.deferredCut n).port.flags =
    if (s.load n).reason != .deferred .requestOff then s.port.flags ||| 0x01 else s.port.flags := by
  obtain ⟨hc, hr⟩ | ⟨hc, hr⟩ := s.deferredCut_cases n
  · rw [hc, State.cutToIdle_port, if_neg (by simp [hr])]
  · rw [hc, State.flags_budgetCut hon, if_pos (by simpa using hr)]

theorem State.holdOff_deferredCut (hon : (s.load n).on = true) : (s.deferredCut n).engine.holdOff =
    if (s.load n).reason != .deferred .requestOff then s.budget.cutHoldOff else s.engine.holdOff := by
  obtain ⟨hc, hr⟩ | ⟨hc, hr⟩ := s.deferredCut_cases n
  · rw [hc, State.engine_cutToIdle hon, if_neg (by simp [hr])]
  · rw [hc, (State.engine_budgetCut hon).1, if_pos (by simpa using hr)]

theorem State.deferredCut_seq (hon : (s.load n).on = true) : (s.deferredCut n).engine =
    { s.engine with
      runList := (s.deferredCut n).engine.runList, standbyList := (s.deferredCut n).engine.standbyList
      holdOff := (s.deferredCut n).engine.holdOff } := by
  obtain ⟨hc, -⟩ | ⟨hc, -⟩ := s.deferredCut_cases n
  · rw [hc, State.engine_cutToIdle hon]
  · rw [hc, (State.engine_budgetCut hon).1]

/-- What the release does at one record to the SHED flag, the cut hold-off timer and the rest of the engine. -/
theorem State.released_counts :
    (s.released h n).port.flags = (if (s.load n).releaseSheds h then s.port.flags ||| 0x01 else s.port.flags)
    ∧ (s.released h n).engine.holdOff = (if (s.load n).releaseSheds h then s.budget.cutHoldOff else s.engine.holdOff)
    ∧ (s.released h n).engine = { s.engine with
      runList := (s.released h n).engine.runList, standbyList := (s.released h n).engine.standbyList
      holdOff := (s.released h n).engine.holdOff } := by
  unfold State.released Load.releaseSheds
  by_cases hw : (s.load n).waitsOn h = true
  case neg => rw [if_neg hw]; simp [hw]
  rw [if_pos hw]
  by_cases hm : (s.load n).waitMinOn = true
  · rw [State.endHoldWait_of_wait hm]
    simp [hm]
  · have hm : (s.load n).waitMinOn = false := by simpa using hm
    have hs := (Load.waitsOn_iff.mp hw).1
    have hon : ((s.modify n fun r => { r with waitHold := false, holdTimer := 0 }).load n).on = true := by
      rw [s.load_modify_self]
      exact Load.on_of_deferred hs
    rw [State.endHoldWait_of_cut hs hm]
    refine ⟨?_, ?_, State.deferredCut_seq _ n hon⟩
    · rw [State.flags_deferredCut _ n hon, s.load_modify_self]
      simp [hw, hm]
    · rw [State.holdOff_deferredCut _ n hon, s.load_modify_self]
      simp [hw, hm]

end

theorem State.releaseHold_eq (h : HoldLine) (s : State) : s.releaseHold h = channels.foldl (State.released h) s := rfl

theorem State.load_releaseHold (h : HoldLine) (s : State) (n : Channel) :
    (s.releaseHold h).load n = (s.load n).afterRelease h s.forceOff.level := by
  rw [s.releaseHold_eq, State.load_foldl (P := fun t => t.forceOff.level = s.forceOff.level)
    (g := fun r => r.afterRelease h s.forceOff.level)
    (fun t m ht => by rwa [State.forceOff_of_apart (t.released_apart h m)]) (fun t m => t.released_others h m)
    (fun t m ht => by rw [t.load_released h m, ht]) channels_nodup rfl, if_pos (mem_channels n)]

/-- The counts after the release at these records, one after the other. -/
theorem State.foldl_released_counts (h : HoldLine) {l : List Channel} (hl : l.Nodup) (s : State) :
    (l.foldl (State.released h) s).port.flags
        = (if l.any fun n => (s.load n).releaseSheds h then s.port.flags ||| 0x01 else s.port.flags)
    ∧ (l.foldl (State.released h) s).engine.holdOff
        = (if l.any fun n => (s.load n).releaseSheds h then s.budget.cutHoldOff else s.engine.holdOff)
    ∧ (l.foldl (State.released h) s).engine = { s.engine with
        runList := (l.foldl (State.released h) s).engine.runList
        standbyList := (l.foldl (State.released h) s).engine.standbyList
        holdOff := (l.foldl (State.released h) s).engine.holdOff } := by
  induction l generalizing s with
  | nil => exact ⟨rfl, rfl, rfl⟩
  | cons n l ih =>
    obtain ⟨hn, hl⟩ := List.nodup_cons.mp hl
    obtain ⟨hflags, hholdOff, hengine⟩ := ih hl (s.released h n)
    obtain ⟨hflags', hholdOff', hengine'⟩ := s.released_counts h n
    have hany : (l.any fun m => ((s.released h n).load m).releaseSheds h) = l.any fun m => (s.load m).releaseSheds h := by
      rw [Bool.eq_iff_iff, List.any_eq_true, List.any_eq_true]
      refine exists_congr fun m => and_congr_right fun hm => ?_
      rw [State.load_of_others (s.released_others h n) fun he => hn (he ▸ hm)]
    have hbudget : (s.released h n).budget = s.budget := State.budget_of_apart (s.released_apart h n)
    rw [List.foldl_cons]
    refine ⟨?_, ?_, ?_⟩
    · rw [hflags, hflags', hany, List.any_cons]
      by_cases ha : (s.load n).releaseSheds h = true <;> by_cases hb : (l.any fun m => (s.load m).releaseSheds h) = true
        <;> simp [ha, hb, BitVec.or_assoc]
    · rw [hholdOff, hholdOff', hany, List.any_cons, hbudget]
      by_cases ha : (s.load n).releaseSheds h = true <;> by_cases hb : (l.any fun m => (s.load m).releaseSheds h) = true
        <;> simp [ha, hb]
    · rw [hengine'] at hengine
      exact hengine

/-- Settles O37: the release record by record, and its counts. -/
theorem holdReleaseEndsItsWaits : Obligations.HoldReleaseEndsItsWaits := by
  intro s h hp
  refine ⟨fun hd => whenPowered_undue ?_ _, fun hrun hlevel => ?_⟩
  · rw [Bool.and_eq_true, Filter.due_iff]
    rintro ⟨hr, hl⟩
    obtain hd | hd := hd
    · exact hd hr
    · exact absurd (hl.symm.trans hd) nofun
  · let u : State := { s with holds := s.holds.set h ⟨false, 0⟩ }
    have htoggled : s.holdToggled h = u := by
      rw [State.holdToggled, Filter.toggled, hlevel]
      rfl
    have hexec : exec (.holdRelease h) s = .next (u.releaseHold h).sweepWindows :=
      (whenPowered_due hp (by rw [Filter.due_iff.mpr hrun, hlevel]; rfl) _).trans (by rw [htoggled])
    obtain ⟨hflags, hholdOff, hengine⟩ := State.foldl_released_counts h channels_nodup u
    refine ⟨_, hexec, ?_, ?_, fun n => ⟨fun hw => ?_, fun hw hm => ?_, fun hw hm => ?_⟩⟩
    · have hframe := State.eq_of_flags (t := (u.releaseHold h).sweepWindows) (s := u) (by simp) (by simp)
      rw [State.sweepWindows_engine, State.sweepWindows_port, u.releaseHold_eq, hengine, hflags] at hframe
      rw [State.sweepWindows_engine, u.releaseHold_eq]
      exact hframe
    · rw [State.sweepWindows_engine, u.releaseHold_eq]
      exact hholdOff
    all_goals have hload := u.load_releaseHold h n
    · refine Load.sameButWindow_sweepWindows (hload.trans (if_neg ?_))
      exact fun he => absurd (he.symm.trans hw) nofun
    · refine Load.sameButWindow_sweepWindows (hload.trans ((if_pos ?_).trans (if_pos hm)))
      exact hw
    · have hcut : (u.releaseHold h).load n = (s.load n).cutByCause s.forceOff.level :=
        hload.trans ((if_pos hw).trans (if_neg (by rw [show u.load n = s.load n from rfl, hm]; nofun)))
      rw [State.load_sweepWindows_of_closed, hcut]
      rw [hcut, Load.cutByCause]
      split <;> rfl

end Sys2Proof.Machine
end

section
/-! PROOFS. The commands on a channel (R154, R166), the arrivals of requests (R81 to R87) and the switch lines (R77). -/

namespace Sys2Proof.Machine

/-! ## Commands on a channel (R154, R166, R175, R176) -/

theorem channelOf_of {a : Wide} {n : Channel} (h : a.toNat = n.val) : channelOf a = some n := by
  have hlt : a.toNat < 12 := h ▸ n.isLt
  rw [channelOf, dif_pos hlt]
  exact congrArg some (Fin.ext h)

theorem channelOf_above {a : Wide} (h : 11 < a.toNat) : channelOf a = none := dif_neg (by omega)

theorem channelByte_of {a : Wide} {n : Channel} (h : a.toNat = n.val) : channelByte a = BitVec.ofNat 8 n.val := by
  rw [channelByte, channelOf_of h]

theorem channelByte_above {a : Wide} (h : 11 < a.toNat) : channelByte a = 0xFE := by
  rw [channelByte, channelOf_above h]

theorem State.clearFault_of_badState {s : State} {n : Channel} (hl : (s.load n).state ≠ .locked)
    (ht : (s.load n).state ≠ .tripped) : s.clearFault n = (s, .badState) := by
  unfold State.clearFault
  split <;> simp_all

theorem State.not_mem_standbyList {s : State} (h : s.listLaw) {n : Channel} (hs : (s.load n).state ≠ .standby) :
    n ∉ s.engine.standbyList := fun hm => hs ((h.2.1 n).mp hm)

/-- The expiry that CLEAR_FAULT forces on a TRIPPED record, with the end of its event. -/
theorem State.clearFault_of_tripped {v : State} {n : Channel} (hs : (v.load n).state = .tripped) (hlist : v.listLaw) :
    ∃ t, v.clearFault n = (t, .done) ∧ v.othersSame n t ∧ t.port = v.port
      ∧ t = { v with loads := t.loads, engine := t.engine }
      ∧ v.endsRetry n { v.load n with retriesUsed := 0, retryTimer := none } t := by
  have heffect : v.clearFault n =
      (((v.modify n fun r => { r with retriesUsed := 0, retryTimer := none }).retryExpires n).sweepWindows, .done) := by
    simp only [State.clearFault, hs]
  refine ⟨_, heffect, State.othersSame_sweepWindows (by simp), by simp, State.eq_of_port (by simp) (by simp), ?_⟩
  exact State.endsRetry_of (v := v.modify n fun r => { r with retriesUsed := 0, retryTimer := none })
    rfl (v.load_modify_self n _) rfl (State.not_mem_standbyList hlist (by rw [hs]; nofun))

/-- Settles O49: the channel argument, and what each command makes of a record by its state. -/
theorem channelCommandsActOrReport : Obligations.ChannelCommandsActOrReport := by
  intro s argument hp hr
  have hclear : exec (.clearFault argument) s = .next (s.command 0 (channelByte (argumentWord argument)) fun t =>
      match channelOf (argumentWord argument) with
      | some n => t.clearFault n
      | none => (t, .badChannel)) := whenAnswering_of hp hr _
  have hforget : exec (.forgetDraw argument) s = .next (s.command 1 (channelByte (argumentWord argument)) fun t =>
      match channelOf (argumentWord argument) with
      | some n => t.forgetDraw n
      | none => (t, .badChannel)) := whenAnswering_of hp hr _
  refine ⟨fun habove => ⟨?_, ?_⟩, fun n hn => ?_⟩
  · rw [hclear, channelOf_above habove, channelByte_above habove, State.command_eq (by decide) rfl rfl]
    rfl
  · rw [hforget, channelOf_above habove, channelByte_above habove, State.command_eq (by decide) rfl rfl]
    rfl
  · intro r
    rw [channelOf_of hn, channelByte_of hn] at hclear hforget
    rw [hclear, hforget]
    let v : State := { s with port := s.port.reach .command 0 }
    refine ⟨fun hl ht => ?_, fun hs => ?_, fun hs hlist => ?_, fun hs => ?_, fun hs => ?_⟩
    · refine congrArg Host.Outcome.next ?_
      rw [State.command_eq (by decide) (State.clearFault_of_badState (s := v) hl ht) rfl]
      rfl
    · have heffect : v.clearFault n = (v.modify n fun r => { r.toIdle with retriesUsed := 0 }, .done) := by
        have hs : (v.load n).state = .locked := hs
        simp only [State.clearFault, hs]
      rw [State.command_eq (by decide) heffect rfl]
      rfl
    · obtain ⟨t, heffect, hothers, hport, heq, hends⟩ := State.clearFault_of_tripped (v := v) hs hlist
      refine ⟨_, congrArg Host.Outcome.next (State.command_eq (by decide) heffect hport), hothers, ?_, hends⟩
      exact congrArg (fun t => { t with port := s.port.afterCommand 0 (BitVec.ofNat 8 n.val) 0x01 }) heq
    · have heffect : State.forgetDraw n { s with port := s.port.reach .command 1 }
          = ({ s with port := s.port.reach .command 1 }, .badState) := if_neg (by
        show ¬(s.load n).enrolled = true
        simp [Load.enrolled, show (s.load n).state = .vacant from hs])
      rw [State.command_eq (by decide) heffect rfl]
      rfl
    · have heffect : State.forgetDraw n { s with port := s.port.reach .command 1 }
          = (State.modify n (fun r => { r with learnedDraw := none }) { s with port := s.port.reach .command 1 }, .done) :=
        if_pos (by
          show (s.load n).enrolled = true
          simpa [Load.enrolled] using hs)
      rw [State.command_eq (by decide) heffect rfl]
      rfl

/-! ## Arrivals (R81 to R87, R90) -/

section
variable {s v : State} {n : Channel}

theorem State.arriveOn_of_exhausted (hx : s.engine.exhausted = true) : s.arriveOn n = s.refuse := if_pos hx

theorem State.arriveOn_flags (s : State) (n : Channel) : (s.arriveOn n).port.flags = s.port.flags := by
  unfold State.arriveOn
  split
  · rfl
  · split
    case h_4 => rfl
    all_goals simp

theorem State.setRequest_flags (s : State) (n : Channel) (on : Bool) :
    (s.setRequest n on).port.flags = s.port.flags := by
  unfold State.setRequest
  split
  · rfl
  · split
    · exact s.arriveOn_flags n
    · rw [s.arriveOff_port n]

theorem State.arriveOn_refusedMark (hx : s.engine.exhausted = false) :
    (s.arriveOn n).port.refusedMark = (s.port.refusedMark || (s.load n).state == .locked) := by
  unfold State.arriveOn
  rw [if_neg (by simp [hx])]
  split <;> simp_all [State.refuse]

theorem State.engine_takeRequestStamp (s : State) (n : Channel) :
    (s.takeRequestStamp n).engine = s.engine.stamped := by
  rw [State.takeRequestStamp, State.stampIssued_engine]
  rfl

/-- An arrival of ON with the end of its event, while a stamp is left. -/
theorem State.turnsOn_of (hx : s.engine.exhausted = false) (hl : s.listLaw) :
    s.turnsOn n (s.arriveOn n).sweepWindows := by
  have harrive : ∀ t, (match (s.load n).state with
    | .idle => ((s.takeRequestStamp n).enterStandby n).essentialCheck n
    | .deferred => (s.takeRequestStamp n).modify n Load.backToRunning
    | .tripped => s.takeRequestStamp n
    | .locked => s.refuse
    | .vacant | .standby | .starting | .running => s) = t → s.arriveOn n = t := fun t h => by
    rw [State.arriveOn, if_neg (by simp [hx])]
    exact h
  have hload := s.load_takeRequestStamp n
  have hengine := s.engine_takeRequestStamp n
  refine ⟨fun hs => ?_, fun hs => ?_, fun hs => ?_, fun hs => ?_⟩
  · rw [harrive _ (by rw [hs])]
    exact State.entersStandby_of (by simp) hload hengine
      (by rw [Engine.stamped_standbyList]; exact State.not_mem_standbyList hl (by rw [hs]; nofun))
  · rw [harrive _ (by rw [hs])]
    refine ⟨hengine, Load.sameButWindow_sweepWindows ?_⟩
    rw [State.load_modify_self, hload]
    rfl
  · rw [harrive _ (by rw [hs])]
    exact ⟨hengine, Load.sameButWindow_sweepWindows hload⟩
  · rw [harrive _ (by rw [hs])]
    exact ⟨rfl, Load.sameButWindow_sweepWindows rfl⟩

/-- An arrival of OFF with the end of its event. -/
theorem State.turnsOff_of (s : State) (n : Channel) : s.turnsOff n (s.arriveOff n).sweepWindows := by
  have harrive : ∀ t, (match (s.load n).state with
    | .standby => ((s.modify n fun r => { r with request := false }).modify n Load.toIdle).leaveStandby n
    | .starting | .running => (s.modify n fun r => { r with request := false }).offWhileOn n
    | .deferred => (s.modify n fun r => { r with request := false }).modify n fun r => { r with reason := .deferred .requestOff }
    | .tripped => (s.modify n fun r => { r with request := false }).modify n Load.toIdle
    | .vacant | .idle | .locked => s) = t → s.arriveOff n = t := fun _ h => h
  have hask := s.load_modify_self n fun r => { r with request := false }
  have hoff : (s.load n).on = true → (s.load n).state ≠ .deferred →
      s.arriveOff n = (s.modify n fun r => { r with request := false }).offWhileOn n := fun hon hne => by
    apply harrive
    split <;> simp_all [Load.on]
  refine ⟨fun hs => ?_, fun hon hne hheld => ?_, fun hon hne hheld => ?_, fun hs => ?_, fun hs => ?_⟩
  · rw [harrive _ (by rw [hs])]
    refine ⟨Load.sameButWindow_sweepWindows ?_, rfl⟩
    rw [State.load_leaveStandby, State.load_modify_self, hask]
    rfl
  · have hon' : ((s.modify n fun r => { r with request := false }).load n).on = true := by rw [hask]; exact hon
    have hcut : (s.arriveOff n) = (s.modify n fun r => { r with request := false }).cutToIdle n := by
      rw [hoff hon hne, State.offWhileOn, if_neg]
      rw [hask]
      exact fun h => absurd (hheld.symm.trans h) nofun
    have hload := State.load_cutToIdle_self hon'
    rw [hask] at hload
    rw [hcut, State.load_sweepWindows_of_closed (by rw [hload]), State.sweepWindows_engine, State.engine_cutToIdle hon']
    exact ⟨hload, rfl⟩
  · have hdefer : (s.arriveOff n) =
        (s.modify n fun r => { r with request := false }).modify n (Load.deferWith .requestOff true false) := by
      rw [hoff hon hne, State.offWhileOn, if_pos]
      rw [hask]
      exact hheld
    have hload := (s.modify n fun r => { r with request := false }).load_modify_self n (Load.deferWith .requestOff true false)
    rw [hask] at hload
    rw [hdefer, State.load_sweepWindows_of_closed (by rw [hload]; rfl), hload]
    exact ⟨rfl, rfl⟩
  · rw [harrive _ (by rw [hs])]
    refine ⟨rfl, Load.sameButWindow_sweepWindows ?_⟩
    rw [State.load_modify_self, hask]
  · rw [harrive _ (by rw [hs])]
    refine ⟨rfl, Load.sameButWindow_sweepWindows ?_⟩
    rw [State.load_modify_self, hask]
    rfl

end

/-! ## The switch lines (R77) -/

/-- The switch mode asks for the load at this level of the switch. -/
def Load.asks (press : Bool) (r : Load) : Prop :=
  (r.switchMode = .toggle ∧ press = true ∧ r.request = false) ∨ (r.switchMode = .follow ∧ press = true)
    ∨ (r.switchMode = .onOnly ∧ press = true)

/-- The switch mode drops the load at this level of the switch. -/
def Load.drops (press : Bool) (r : Load) : Prop :=
  (r.switchMode = .toggle ∧ press = true ∧ r.request = true) ∨ (r.switchMode = .follow ∧ press = false)

theorem switchRequest_iff (r : Load) (press on : Bool) :
    switchRequest r.switchMode r.request press = some on ↔ if on then r.asks press else r.drops press := by
  unfold switchRequest Load.asks Load.drops
  cases on <;> cases press <;> cases r.switchMode <;> cases r.request <;> simp

/-- A switch event is an arrival, or nothing. -/
theorem State.switchEvent_cases (s : State) (n : Channel) (press : Bool) :
    (∃ on, s.switchEvent n press = s.setRequest n on ∧ s.startup.ready = true ∧ (s.load n).state ≠ .vacant
        ∧ if on then (s.load n).asks press else (s.load n).drops press)
      ∨ (s.switchEvent n press = s
        ∧ ¬(s.startup.ready = true ∧ (s.load n).state ≠ .vacant ∧ ((s.load n).asks press ∨ (s.load n).drops press))) := by
  simp only [State.switchEvent]
  by_cases hg : s.startup.ready = true ∧ (s.load n).state ≠ .vacant
  · obtain ⟨hready, hv⟩ := hg
    rw [if_pos (by simp [hready, Load.enrolled, hv])]
    split
    next on hon => exact .inl ⟨on, rfl, hready, hv, (switchRequest_iff _ press on).mp hon⟩
    next hnone =>
      refine .inr ⟨rfl, fun ⟨_, _, h⟩ => ?_⟩
      obtain h | h := h
      · rw [(switchRequest_iff _ press true).mpr h] at hnone
        cases hnone
      · rw [(switchRequest_iff _ press false).mpr h] at hnone
        cases hnone
  · rw [if_neg (by simpa [Load.enrolled] using hg)]
    exact .inr ⟨rfl, fun ⟨hr, hv, _⟩ => hg ⟨hr, hv⟩⟩

theorem Load.not_drops_of_asks {press : Bool} {r : Load} (ha : r.asks press) (hd : r.drops press) : False := by
  unfold Load.asks at ha
  unfold Load.drops at hd
  rcases ha with ⟨hm, hp, hr⟩ | ⟨hm, hp⟩ | ⟨hm, hp⟩ <;> rcases hd with ⟨hm', hp', hr'⟩ | ⟨hm', hp'⟩ <;> simp_all

theorem State.setRequest_same {s : State} {n : Channel} {on : Bool} (h : (s.load n).request = on) :
    s.setRequest n on = s := if_pos h

theorem State.setRequest_on {s : State} {n : Channel} (h : (s.load n).request = false) :
    s.setRequest n true = s.arriveOn n := by
  rw [State.setRequest, if_neg (by simp [h]), if_pos rfl]

theorem State.setRequest_off {s : State} {n : Channel} (h : (s.load n).request = true) :
    s.setRequest n false = s.arriveOff n := by
  rw [State.setRequest, if_neg (by simp [h]), if_neg nofun]

/-- Settles O40: a switch event is the arrival that its mode asks or drops, from the part whose stable level has changed. -/
theorem switchChangeActsByMode : Obligations.SwitchChangeActsByMode := by
  intro s n hp hlists
  refine ⟨fun hd => whenPowered_undue (by simpa using hd) _, fun hd => ?_⟩
  let u := s.switchToggled n
  let press := !s.switches[n].pressed
  have hexec : exec (.stableLevelChange n) s = .next (u.switchEvent n press).sweepWindows := whenPowered_due hp hd _
  have hflags : (u.switchEvent n press).sweepWindows.port.flags = u.port.flags := by
    rw [State.sweepWindows_port]
    obtain ⟨on, h, -⟩ | ⟨h, -⟩ := u.switchEvent_cases n press
    · rw [h, u.setRequest_flags]
    · rw [h]
  refine ⟨_, hexec, State.othersSame_sweepWindows (by simp; rfl), State.eq_of_refusedMark (s := u) (by simp) hflags, ?_⟩
  intro r press' asks drops acts
  obtain ⟨on, hevent, hready, hvacant, hmode⟩ | ⟨hevent, hnot⟩ := u.switchEvent_cases n press
  · cases on with
    | true =>
      have hasks : asks := hmode
      by_cases hreq : r.request = true
      · rw [hevent, State.setRequest_same (s := u) hreq]
        have hno : ¬acts := by
          rintro ⟨-, -, ⟨-, hf⟩ | ⟨hdrops, -⟩⟩
          · exact absurd (hf.symm.trans hreq) nofun
          · exact Load.not_drops_of_asks (r := r) hasks hdrops
        exact ⟨fun _ => ⟨Load.sameButWindow_sweepWindows (s := u) rfl, rfl, rfl⟩, fun h => absurd h hno,
          fun h => absurd h hno, fun h => absurd h hno⟩
      · have hreq : r.request = false := by simpa using hreq
        rw [hevent, State.setRequest_on (s := u) hreq]
        have hacts : acts := ⟨hready, hvacant, .inl ⟨hasks, hreq⟩⟩
        refine ⟨fun h => absurd hacts h, fun _ _ hx => ?_, fun _ _ hx => ⟨?_, ?_⟩,
          fun _ hdrops => (Load.not_drops_of_asks (r := r) hasks hdrops).elim⟩
        · rw [State.arriveOn_of_exhausted (s := u) hx]
          exact ⟨Load.sameButWindow_sweepWindows (s := u.refuse) rfl, rfl, rfl⟩
        · exact State.turnsOn_of (s := u) hx hlists.2.1
        · exact State.arriveOn_refusedMark (s := u) hx
    | false =>
      have hdrops : drops := hmode
      by_cases hreq : r.request = true
      · rw [hevent, State.setRequest_off (s := u) hreq]
        have hacts : acts := ⟨hready, hvacant, .inr ⟨hdrops, hreq⟩⟩
        refine ⟨fun h => absurd hacts h, fun _ hasks => (Load.not_drops_of_asks (r := r) hasks hdrops).elim,
          fun _ hasks => (Load.not_drops_of_asks (r := r) hasks hdrops).elim, fun _ _ => ⟨State.turnsOff_of u n, ?_⟩⟩
        exact u.arriveOff_port n
      · have hreq' : r.request = false := by simpa using hreq
        rw [hevent, State.setRequest_same (s := u) hreq']
        have hno : ¬acts := by
          rintro ⟨-, -, ⟨hasks, -⟩ | ⟨-, ht⟩⟩
          · exact Load.not_drops_of_asks (r := r) hasks hdrops
          · exact hreq ht
        exact ⟨fun _ => ⟨Load.sameButWindow_sweepWindows (s := u) rfl, rfl, rfl⟩, fun h => absurd h hno,
          fun h => absurd h hno, fun h => absurd h hno⟩
  · have hno : ¬acts := by
      rintro ⟨hready, hvacant, ⟨hasks, -⟩ | ⟨hdrops, -⟩⟩
      · exact hnot ⟨hready, hvacant, .inl hasks⟩
      · exact hnot ⟨hready, hvacant, .inr hdrops⟩
    rw [hevent]
    exact ⟨fun _ => ⟨Load.sameButWindow_sweepWindows (s := u) rfl, rfl, rfl⟩, fun h => absurd h hno,
      fun h => absurd h hno, fun h => absurd h hno⟩

end Sys2Proof.Machine
end

section
/-! PROOFS. The places of the records: what moves a record into a list, within it and out of it keeps the lists equal to their
states and in the order of their stamps (R90 to R95). -/

namespace Sys2Proof.Machine

/-! ## Insertion into an ordered list (R93, R97) -/

/-- Insertion into an ordered list at the first place that the entry stands before leaves the list ordered. -/
theorem pairwise_insertBy {before : Channel → Channel → Bool} {R : Channel → Channel → Prop} {n : Channel}
    (htrans : ∀ a b c, R a b → R b c → R a c) (hbefore : ∀ m, before n m = true ↔ R n m) {l : List Channel}
    (hl : l.Pairwise R) (htotal : ∀ m ∈ l, R n m ∨ R m n) : (insertBy before n l).Pairwise R := by
  induction l with
  | nil => simp [insertBy]
  | cons m l ih =>
    obtain ⟨hm, hl⟩ := List.pairwise_cons.mp hl
    rw [insertBy]
    by_cases hb : before n m = true
    · rw [if_pos hb]
      have hnm := (hbefore m).mp hb
      refine List.pairwise_cons.mpr ⟨fun k hk => ?_, List.pairwise_cons.mpr ⟨hm, hl⟩⟩
      obtain rfl | hk := List.mem_cons.mp hk
      · exact hnm
      · exact htrans n m k hnm (hm k hk)
    · rw [if_neg hb]
      refine List.pairwise_cons.mpr ⟨fun k hk => ?_, ih hl fun k hk => htotal k (List.mem_cons_of_mem _ hk)⟩
      obtain rfl | hk := mem_insertBy.mp hk
      · exact (htotal m List.mem_cons_self).resolve_left fun h => hb ((hbefore m).mpr h)
      · exact hm k hk

/-! ## Places -/

/-- The lists hold their records, in the order of stamps that are issued and distinct (R90 to R95). -/
structure State.Placed (s : State) : Prop where
  lists : s.listLaw
  counter : s.counterLaw
  stamps : s.stampsDistinct
  ordered : s.listsOrdered
  asked : ∀ n : Channel, (s.load n).state = .standby → (s.load n).requestStamp.isSome = true
  begun : ∀ n : Channel, (s.load n).on = true → (s.load n).startStamp.isSome = true

theorem State.listsInOrder_iff {s : State} : s.listsInOrder ↔ s.recordsLaw ∧ s.Placed := by
  constructor
  · rintro ⟨hr, hl, hc, hs, ho⟩
    refine ⟨hr, hl, hc, hs, ho, fun n hn => ?_, fun n hn => ?_⟩
    · obtain ⟨-, ⟨hreq, -⟩, -⟩ := hr n
      rw [hreq, hn]
      rfl
    · obtain ⟨-, ⟨-, hstart⟩, -⟩ := hr n
      rw [hstart, hn]
  · rintro ⟨hr, hp⟩
    exact ⟨hr, hp.lists, hp.counter, hp.stamps, hp.ordered⟩

/-- The lists and the sequence counter. -/
def Engine.places (e : Engine) : List Channel × List Channel × Nat × Bool := (e.runList, e.standbyList, e.seq, e.exhausted)

/-- A record that keeps its place: on or in STANDBY as before, with the class and the stamps that the place goes by. -/
structure Load.SamePlace (r r' : Load) : Prop where
  on : r'.on = r.on
  standby : r'.state = .standby ↔ r.state = .standby
  cls : r.state = .standby → r'.cls = r.cls
  asked : r'.requestStamp = r.requestStamp ∨ (r'.requestStamp = none ∧ r.state ≠ .standby)
  begun : r'.startStamp = r.startStamp

theorem Load.SamePlace.refl (r : Load) : r.SamePlace r := ⟨rfl, .rfl, fun _ => rfl, .inl rfl, rfl⟩

/-- The state is the same, and with it the place. -/
theorem Load.SamePlace.of_state {r r' : Load} (hs : r'.state = r.state) (hc : r.state = .standby → r'.cls = r.cls)
    (hq : r'.requestStamp = r.requestStamp) (hb : r'.startStamp = r.startStamp) : r.SamePlace r' :=
  ⟨by simp only [Load.on, hs], by rw [hs], hc, .inl hq, hb⟩

section
variable {s t : State} {n : Channel}

/-- Records that keep their places keep them all. -/
theorem State.Placed.of_samePlace (h : s.Placed) (he : t.engine.places = s.engine.places)
    (hr : ∀ m, (s.load m).SamePlace (t.load m)) : t.Placed := by
  obtain ⟨hrun, hstandby, hseq, hex⟩ : t.engine.runList = s.engine.runList ∧ t.engine.standbyList = s.engine.standbyList
      ∧ t.engine.seq = s.engine.seq ∧ t.engine.exhausted = s.engine.exhausted := by simpa [Engine.places] using he
  obtain ⟨honrun, honstandby, hrunnodup, hstandbynodup⟩ := h.lists
  obtain ⟨hreqissued, hstartissued, hreqne, hstartne⟩ := h.stamps
  obtain ⟨hstandbyord, hrunord⟩ := h.ordered
  have hissued : ∀ k, t.issued k ↔ s.issued k := fun k => by simp only [State.issued, hseq, hex]
  have hreq : ∀ m k, k ∈ (t.load m).requestStamp → k ∈ (s.load m).requestStamp := fun m k hk => by
    obtain hsame | ⟨hnone, -⟩ := (hr m).asked
    · rwa [hsame] at hk
    · rw [hnone] at hk
      cases hk
  refine ⟨⟨fun m => ?_, fun m => ?_, hrun ▸ hrunnodup, hstandby ▸ hstandbynodup⟩, ?_, ⟨fun m k hk => ?_, fun m k hk => ?_,
    fun j m hjm heq => ?_, fun j m hjm heq => ?_⟩, ⟨?_, ?_⟩, fun m hm => ?_, fun m hm => ?_⟩
  · rw [hrun, (hr m).on]
    exact honrun m
  · rw [hstandby, (hr m).standby]
    exact honstandby m
  · rw [State.counterLaw, hseq, hex]
    exact h.counter
  · exact (hissued k).mpr (hreqissued m k (hreq m k hk))
  · rw [(hr m).begun] at hk
    exact (hissued k).mpr (hstartissued m k hk)
  · by_contra hne
    obtain ⟨k, hk⟩ := Option.ne_none_iff_exists'.mp hne
    have hj := hreq j k hk
    have hm := hreq m k (heq ▸ hk)
    have := hreqne j m hjm (hj.trans hm.symm)
    rw [this] at hj
    cases hj
  · rw [(hr j).begun] at heq ⊢
    rw [(hr m).begun] at heq
    exact hstartne j m hjm heq
  · rw [hstandby]
    refine hstandbyord.imp_of_mem fun {a b} ha hb hab => ?_
    have hplace : ∀ m, m ∈ s.engine.standbyList →
        (t.load m).cls = (s.load m).cls ∧ (t.load m).requestStamp = (s.load m).requestStamp := fun m hm => by
      have hs := (honstandby m).mp hm
      exact ⟨(hr m).cls hs, (hr m).asked.resolve_right fun h => h.2 hs⟩
    obtain ⟨hca, hqa⟩ := hplace a ha
    obtain ⟨hcb, hqb⟩ := hplace b hb
    rw [hca, hcb, hqa, hqb]
    exact hab
  · rw [hrun]
    refine hrunord.imp fun {a b} hab => ?_
    rw [(hr a).begun, (hr b).begun]
    exact hab
  · have hs := (hr m).standby.mp hm
    rw [(hr m).asked.resolve_right fun h => h.2 hs]
    exact h.asked m hs
  · rw [(hr m).begun]
    exact h.begun m ((hr m).on ▸ hm)

theorem State.Placed.modify {f : Load → Load} (h : s.Placed) (hr : (s.load n).SamePlace (f (s.load n))) :
    (s.modify n f).Placed :=
  h.of_samePlace rfl fun m => by
    rw [s.load_modify]
    split
    case isTrue hm => exact hm ▸ hr
    case isFalse => exact .refl _

theorem State.Placed.mapLoads {f : Channel → Load → Load} (h : s.Placed)
    (hr : ∀ m, (s.load m).SamePlace (f m (s.load m))) : (s.mapLoads f).Placed :=
  h.of_samePlace rfl fun m => by rw [s.load_mapLoads]; exact hr m

/-! ## Stamps (R90 to R92) -/

/-- A stamp issued leaves those issued before, and is issued itself. -/
theorem State.issued_stamped (hseq : t.engine.seq = s.engine.stamped.seq)
    (hex : t.engine.exhausted = s.engine.stamped.exhausted) (hc : s.counterLaw) :
    (∀ k, s.issued k → t.issued k) ∧ t.issued s.engine.seq ∧ t.counterLaw := by
  obtain ⟨hle, hend⟩ := hc
  simp only [State.issued, State.counterLaw, hseq, hex, Engine.stamped]
  split
  case isTrue hlt =>
    refine ⟨fun k hk => .inl ?_, .inl (Nat.lt_succ_self _), hlt, fun h => absurd (hend h) (Nat.ne_of_lt hlt)⟩
    obtain hk | ⟨-, rfl⟩ := hk
    · exact Nat.lt_succ_of_lt hk
    · exact Nat.lt_succ_self _
  case isFalse hlt =>
    refine ⟨fun k hk => ?_, .inr ⟨rfl, rfl⟩, hle, fun _ => Nat.le_antisymm hle (Nat.not_lt.mp hlt)⟩
    obtain hk | ⟨-, hk⟩ := hk
    · exact .inl hk
    · exact .inr ⟨rfl, hk⟩

/-- While a stamp is left, those issued lie below it. -/
theorem State.issued_lt (hx : s.engine.exhausted = false) {k : Nat} (h : s.issued k) : k < s.engine.seq := by
  obtain h | ⟨h, -⟩ := h
  · exact h
  · rw [hx] at h
    cases h

/-- A record outside STANDBY takes a fresh request stamp where it stands (R74, R91). -/
theorem State.Placed.newRequestStamp (h : s.Placed) (hx : s.engine.exhausted = false) (ho : t.others n = s.others n)
    (he : t.engine = s.engine.stamped) (hs : (s.load n).state ≠ .standby) (hstate : (t.load n).state = (s.load n).state)
    (hq : (t.load n).requestStamp = some s.engine.seq) (hb : (t.load n).startStamp = (s.load n).startStamp) :
    t.Placed := by
  obtain ⟨hissued, hfresh, hcounter⟩ := State.issued_stamped (s := s) (t := t) (by rw [he]) (by rw [he]) h.counter
  obtain ⟨honrun, honstandby, hrunnodup, hstandbynodup⟩ := h.lists
  obtain ⟨hreqissued, hstartissued, hreqne, hstartne⟩ := h.stamps
  obtain ⟨hstandbyord, hrunord⟩ := h.ordered
  have hother : ∀ m, m ≠ n → t.load m = s.load m := fun m hm => State.load_of_others ho hm
  have hrun : t.engine.runList = s.engine.runList := by rw [he, Engine.stamped_runList]
  have hstandby : t.engine.standbyList = s.engine.standbyList := by rw [he, Engine.stamped_standbyList]
  have hstates : ∀ m, (t.load m).state = (s.load m).state ∧ (t.load m).startStamp = (s.load m).startStamp := fun m => by
    by_cases hm : m = n
    · exact hm ▸ ⟨hstate, hb⟩
    · rw [hother m hm]
      exact ⟨rfl, rfl⟩
  have hon : ∀ m, (t.load m).on = (s.load m).on := fun m => by simp only [Load.on, (hstates m).1]
  have hnew : ∀ m, m ≠ n → (t.load m).requestStamp ≠ some s.engine.seq := fun m hm hk => by
    rw [hother m hm] at hk
    exact absurd (State.issued_lt hx (hreqissued m _ hk)) (Nat.lt_irrefl _)
  refine ⟨⟨fun m => ?_, fun m => ?_, hrun ▸ hrunnodup, hstandby ▸ hstandbynodup⟩, hcounter, ⟨fun m k hk => ?_,
    fun m k hk => ?_, fun j m hjm heq => ?_, fun j m hjm heq => ?_⟩, ⟨?_, ?_⟩, fun m hm => ?_, fun m hm => ?_⟩
  · rw [hrun, hon]
    exact honrun m
  · rw [hstandby, (hstates m).1]
    exact honstandby m
  · by_cases hm : m = n
    · rw [hm, hq] at hk
      exact Option.some.inj hk ▸ hfresh
    · rw [hother m hm] at hk
      exact hissued k (hreqissued m k hk)
  · rw [(hstates m).2] at hk
    exact hissued k (hstartissued m k hk)
  · by_cases hj : j = n
    · rw [hj, hq] at heq
      exact absurd heq.symm (hnew m fun h => hjm (hj.trans h.symm))
    · by_cases hm : m = n
      · rw [hm, hq] at heq
        exact absurd heq (hnew j hj)
      · rw [hother j hj] at heq ⊢
        rw [hother m hm] at heq
        exact hreqne j m hjm heq
  · rw [(hstates j).2] at heq ⊢
    rw [(hstates m).2] at heq
    exact hstartne j m hjm heq
  · rw [hstandby]
    refine hstandbyord.imp_of_mem fun {a b} ha hb hab => ?_
    have hne : ∀ m, m ∈ s.engine.standbyList → m ≠ n := fun m hm hmn => hs (hmn ▸ (honstandby m).mp hm)
    rw [hother a (hne a ha), hother b (hne b hb)]
    exact hab
  · rw [hrun]
    refine hrunord.imp fun {a b} hab => ?_
    rw [(hstates a).2, (hstates b).2]
    exact hab
  · have hmn : m ≠ n := by
      rintro rfl
      exact hs ((hstates m).1 ▸ hm)
    rw [hother m hmn] at hm ⊢
    exact h.asked m hm
  · rw [(hstates m).2]
    exact h.begun m (hon m ▸ hm)

/-! ## Out of the lists and into STANDBY (R93, R100) -/

/-- The stamps of the records beside one, which keeps its own request stamp or drops it, and has no start stamp. -/
theorem State.stampsDistinct_of_dropped (h : s.stampsDistinct) (ho : t.others n = s.others n)
    (hissued : ∀ k, s.issued k → t.issued k)
    (hq : (t.load n).requestStamp = (s.load n).requestStamp ∨ (t.load n).requestStamp = none)
    (hb : (t.load n).startStamp = none) : t.stampsDistinct := by
  obtain ⟨hreqissued, hstartissued, hreqne, hstartne⟩ := h
  have hreq : ∀ m k, k ∈ (t.load m).requestStamp → k ∈ (s.load m).requestStamp := fun m k hk => by
    by_cases hm : m = n
    · subst hm
      obtain hq | hq := hq
      · rwa [hq] at hk
      · rw [hq] at hk
        cases hk
    · rwa [State.load_of_others ho hm] at hk
  have hstart : ∀ m k, k ∈ (t.load m).startStamp → k ∈ (s.load m).startStamp := fun m k hk => by
    by_cases hm : m = n
    · rw [hm, hb] at hk
      cases hk
    · rwa [State.load_of_others ho hm] at hk
  refine ⟨fun m k hk => hissued k (hreqissued m k (hreq m k hk)), fun m k hk => hissued k (hstartissued m k (hstart m k hk)),
    fun j m hjm heq => ?_, fun j m hjm heq => ?_⟩
  · by_contra hne
    obtain ⟨k, hk⟩ := Option.ne_none_iff_exists'.mp hne
    have hj := hreq j k hk
    have := hreqne j m hjm (hj.trans (hreq m k (heq ▸ hk)).symm)
    rw [this] at hj
    cases hj
  · by_contra hne
    obtain ⟨k, hk⟩ := Option.ne_none_iff_exists'.mp hne
    have hj := hstart j k hk
    have := hstartne j m hjm (hj.trans (hstart m k (heq ▸ hk)).symm)
    rw [this] at hj
    cases hj

/-- A record that leaves both lists. -/
theorem State.Placed.dropped (h : s.Placed) (ho : t.others n = s.others n)
    (he : t.engine.places = (s.engine.runList.erase n, s.engine.standbyList.erase n, s.engine.seq, s.engine.exhausted))
    (hon : (t.load n).on = false) (hs : (t.load n).state ≠ .standby)
    (hq : (t.load n).requestStamp = (s.load n).requestStamp ∨ (t.load n).requestStamp = none)
    (hb : (t.load n).startStamp = none) : t.Placed := by
  obtain ⟨hrun, hstandby, hseq, hex⟩ : t.engine.runList = s.engine.runList.erase n
      ∧ t.engine.standbyList = s.engine.standbyList.erase n ∧ t.engine.seq = s.engine.seq
      ∧ t.engine.exhausted = s.engine.exhausted := by simpa [Engine.places] using he
  obtain ⟨honrun, honstandby, hrunnodup, hstandbynodup⟩ := h.lists
  obtain ⟨hstandbyord, hrunord⟩ := h.ordered
  have hother : ∀ m, m ≠ n → t.load m = s.load m := fun m hm => State.load_of_others ho hm
  refine ⟨⟨fun m => ?_, fun m => ?_, hrun ▸ hrunnodup.erase n, hstandby ▸ hstandbynodup.erase n⟩, ?_,
    State.stampsDistinct_of_dropped h.stamps ho (fun k hk => by rwa [State.issued, hseq, hex]) hq hb, ⟨?_, ?_⟩,
    fun m hm => ?_, fun m hm => ?_⟩
  · rw [hrun, hrunnodup.mem_erase_iff]
    by_cases hm : m = n
    · simp [hm, hon]
    · rw [hother m hm, ← honrun m]
      exact and_iff_right hm
  · rw [hstandby, hstandbynodup.mem_erase_iff]
    by_cases hm : m = n
    · simp [hm, hs]
    · rw [hother m hm, ← honstandby m]
      exact and_iff_right hm
  · rw [State.counterLaw, hseq, hex]
    exact h.counter
  · rw [hstandby]
    refine (hstandbyord.sublist List.erase_sublist).imp_of_mem fun {a b} ha hb hab => ?_
    rw [hother a (hstandbynodup.mem_erase_iff.mp ha).1, hother b (hstandbynodup.mem_erase_iff.mp hb).1]
    exact hab
  · rw [hrun]
    refine (hrunord.sublist List.erase_sublist).imp_of_mem fun {a b} ha hb hab => ?_
    rw [hother a (hrunnodup.mem_erase_iff.mp ha).1, hother b (hrunnodup.mem_erase_iff.mp hb).1]
    exact hab
  · have hmn : m ≠ n := by
      rintro rfl
      exact hs hm
    rw [hother m hmn] at hm ⊢
    exact h.asked m hm
  · have hmn : m ≠ n := by
      rintro rfl
      rw [hon] at hm
      cases hm
    rw [hother m hmn] at hm ⊢
    exact h.begun m hm

/-- The order of the Standby List as a relation (R93). -/
def State.asksBefore (s : State) (a b : Channel) : Prop :=
  (s.load a).cls < (s.load b).cls
    ∨ ((s.load a).cls = (s.load b).cls ∧ (s.load a).requestStamp.getD 0 < (s.load b).requestStamp.getD 0)

theorem State.standbyBefore_iff {a b : Channel} : s.standbyBefore a b = true ↔ s.asksBefore a b := by
  simp [State.standbyBefore, State.asksBefore]

theorem State.asksBefore_trans (a b c : Channel) (hab : s.asksBefore a b) (hbc : s.asksBefore b c) : s.asksBefore a c := by
  unfold State.asksBefore at *
  omega

/-- Two records with distinct stamps stand in one of the two orders. -/
theorem State.asksBefore_total {a b : Channel} (hne : a ≠ b) (hd : s.stampsDistinct)
    (ha : (s.load a).requestStamp.isSome = true) (hb : (s.load b).requestStamp.isSome = true) :
    s.asksBefore a b ∨ s.asksBefore b a := by
  obtain ⟨j, hj⟩ := Option.isSome_iff_exists.mp ha
  obtain ⟨k, hk⟩ := Option.isSome_iff_exists.mp hb
  obtain ⟨-, -, hreqne, -⟩ := hd
  have hjk : j ≠ k := by
    rintro rfl
    have := hreqne a b hne (hj.trans hk.symm)
    rw [this] at hj
    cases hj
  simp only [State.asksBefore, hj, hk, Option.getD_some]
  omega

/-- A record that leaves its list and enters the Standby List at its place (R93). -/
theorem State.Placed.inserted (h : s.Placed) (ho : t.others n = s.others n)
    (he : t.engine.places = (s.engine.runList.erase n, insertBy t.standbyBefore n (s.engine.standbyList.erase n),
      s.engine.seq, s.engine.exhausted))
    (hs : (t.load n).state = .standby) (hq : (t.load n).requestStamp = (s.load n).requestStamp)
    (hasked : (t.load n).requestStamp.isSome = true) (hb : (t.load n).startStamp = none) : t.Placed := by
  obtain ⟨hrun, hstandby, hseq, hex⟩ : t.engine.runList = s.engine.runList.erase n
      ∧ t.engine.standbyList = insertBy t.standbyBefore n (s.engine.standbyList.erase n) ∧ t.engine.seq = s.engine.seq
      ∧ t.engine.exhausted = s.engine.exhausted := by simpa [Engine.places] using he
  obtain ⟨honrun, honstandby, hrunnodup, hstandbynodup⟩ := h.lists
  obtain ⟨hstandbyord, hrunord⟩ := h.ordered
  have hother : ∀ m, m ≠ n → t.load m = s.load m := fun m hm => State.load_of_others ho hm
  have hmem : ∀ m, m ∈ s.engine.standbyList.erase n ↔ m ≠ n ∧ m ∈ s.engine.standbyList := fun m =>
    hstandbynodup.mem_erase_iff
  have hon : (t.load n).on = false := by simp [Load.on, hs]
  have hstamps := State.stampsDistinct_of_dropped h.stamps ho (fun k hk => by rwa [State.issued, hseq, hex]) (.inl hq) hb
  refine ⟨⟨fun m => ?_, fun m => ?_, hrun ▸ hrunnodup.erase n, ?_⟩, ?_, hstamps, ⟨?_, ?_⟩, fun m hm => ?_, fun m hm => ?_⟩
  · rw [hrun, hrunnodup.mem_erase_iff]
    by_cases hm : m = n
    · simp [hm, hon]
    · rw [hother m hm, ← honrun m]
      exact and_iff_right hm
  · rw [hstandby, mem_insertBy, hmem]
    by_cases hm : m = n
    · simp [hm, hs]
    · rw [hother m hm, ← honstandby m]
      simp [hm]
  · rw [hstandby, (insertBy_perm _ n _).nodup_iff]
    exact List.nodup_cons.mpr ⟨fun hn => ((hmem n).mp hn).1 rfl, hstandbynodup.erase n⟩
  · rw [State.counterLaw, hseq, hex]
    exact h.counter
  · rw [hstandby]
    refine pairwise_insertBy (R := t.asksBefore) t.asksBefore_trans (fun m => t.standbyBefore_iff) ?_ fun m hm => ?_
    · refine (hstandbyord.sublist List.erase_sublist).imp_of_mem fun {a b} ha hb hab => ?_
      rw [State.asksBefore, hother a ((hmem a).mp ha).1, hother b ((hmem b).mp hb).1]
      exact hab
    · obtain ⟨hmn, hm⟩ := (hmem m).mp hm
      refine t.asksBefore_total hmn.symm hstamps hasked ?_
      rw [hother m hmn]
      exact h.asked m ((honstandby m).mp hm)
  · rw [hrun]
    refine (hrunord.sublist List.erase_sublist).imp_of_mem fun {a b} ha hb hab => ?_
    rw [hother a (hrunnodup.mem_erase_iff.mp ha).1, hother b (hrunnodup.mem_erase_iff.mp hb).1]
    exact hab
  · by_cases hmn : m = n
    · exact hmn ▸ hasked
    · rw [hother m hmn] at hm ⊢
      exact h.asked m hm
  · have hmn : m ≠ n := by
      rintro rfl
      rw [hon] at hm
      cases hm
    rw [hother m hmn] at hm ⊢
    exact h.begun m hm

/-! ## The start (R92, R94, R98) -/

/-- A start takes the record from the Standby List to the tail of the Run List, with a fresh start stamp. -/
theorem State.Placed.start (h : s.Placed) (n : Channel) : (s.start n).Placed := by
  by_cases hmade : (s.load n).state = .standby ∧ s.engine.exhausted = false
  case neg => rwa [s.start_refused hmade]
  obtain ⟨hs, hx⟩ := hmade
  have he := State.engine_start hs hx
  obtain ⟨hissued, hfresh, hcounter⟩ :=
    State.issued_stamped (s := s) (t := s.start n) (by rw [he]) (by rw [he]) h.counter
  obtain ⟨honrun, honstandby, hrunnodup, hstandbynodup⟩ := h.lists
  obtain ⟨hreqissued, hstartissued, hreqne, hstartne⟩ := h.stamps
  obtain ⟨hstandbyord, hrunord⟩ := h.ordered
  have hother : ∀ m, m ≠ n → (s.start n).load m = s.load m := fun m hm => State.load_of_others (s.start_others n) hm
  have hself := s.load_start hs hx n
  rw [if_pos rfl] at hself
  have hon : ((s.start n).load n).on = true := by simp [hself, Load.on, Load.started]
  have hstarting : ((s.start n).load n).state = .starting := by rw [hself]; rfl
  have hb : ((s.start n).load n).startStamp = some s.engine.seq := by rw [hself]; rfl
  have hq : ((s.start n).load n).requestStamp = (s.load n).requestStamp := by rw [hself]; rfl
  have hoff : (s.load n).on = false := by simp [Load.on, hs]
  have hrun : (s.start n).engine.runList = s.engine.runList ++ [n] := by rw [he]
  have hstandby : (s.start n).engine.standbyList = s.engine.standbyList.erase n := by rw [he]
  have hreq : ∀ m, ((s.start n).load m).requestStamp = (s.load m).requestStamp := fun m => by
    by_cases hm : m = n
    · exact hm ▸ hq
    · rw [hother m hm]
  have hlt : ∀ m k, k ∈ (s.load m).startStamp → k < s.engine.seq := fun m k hk => State.issued_lt hx (hstartissued m k hk)
  have hnew : ∀ m, m ≠ n → ((s.start n).load m).startStamp ≠ some s.engine.seq := fun m hm hk => by
    rw [hother m hm] at hk
    exact absurd (hlt m _ hk) (Nat.lt_irrefl _)
  refine ⟨⟨fun m => ?_, fun m => ?_, ?_, hstandby ▸ hstandbynodup.erase n⟩, hcounter, ⟨fun m k hk => ?_, fun m k hk => ?_,
    fun j m hjm heq => ?_, fun j m hjm heq => ?_⟩, ⟨?_, ?_⟩, fun m hm => ?_, fun m hm => ?_⟩
  · rw [hrun, List.mem_append, List.mem_singleton]
    by_cases hm : m = n
    · simp [hm, hon]
    · rw [hother m hm, ← honrun m]
      simp [hm]
  · rw [hstandby, hstandbynodup.mem_erase_iff]
    by_cases hm : m = n
    · simp [hm, hstarting]
    · rw [hother m hm, ← honstandby m]
      exact and_iff_right hm
  · rw [hrun]
    refine List.nodup_append.mpr ⟨hrunnodup, List.nodup_singleton n, fun a ha b hb => ?_⟩
    obtain rfl := List.mem_singleton.mp hb
    rintro rfl
    rw [honrun, hoff] at ha
    cases ha
  · rw [hreq] at hk
    exact hissued k (hreqissued m k hk)
  · by_cases hm : m = n
    · rw [hm, hb] at hk
      exact Option.some.inj hk ▸ hfresh
    · rw [hother m hm] at hk
      exact hissued k (hstartissued m k hk)
  · rw [hreq] at heq ⊢
    rw [hreq] at heq
    exact hreqne j m hjm heq
  · by_cases hj : j = n
    · rw [hj, hb] at heq
      exact absurd heq.symm (hnew m fun h => hjm (hj.trans h.symm))
    · by_cases hm : m = n
      · rw [hm, hb] at heq
        exact absurd heq (hnew j hj)
      · rw [hother j hj] at heq ⊢
        rw [hother m hm] at heq
        exact hstartne j m hjm heq
  · rw [hstandby]
    refine (hstandbyord.sublist List.erase_sublist).imp_of_mem fun {a b} ha hb hab => ?_
    rw [hother a (hstandbynodup.mem_erase_iff.mp ha).1, hother b (hstandbynodup.mem_erase_iff.mp hb).1]
    exact hab
  · have hne : ∀ m ∈ s.engine.runList, m ≠ n := by
      rintro m hm rfl
      rw [honrun, hoff] at hm
      cases hm
    rw [hrun]
    refine List.pairwise_append.mpr ⟨hrunord.imp_of_mem fun {a b} ha hb hab => ?_, List.pairwise_singleton .., fun a ha b hb' => ?_⟩
    · rw [hother a (hne a ha), hother b (hne b hb)]
      exact hab
    · obtain rfl := List.mem_singleton.mp hb'
      obtain ⟨k, hk⟩ := Option.isSome_iff_exists.mp (h.begun a ((honrun a).mp ha))
      rw [hother a (hne a ha), hk, hb]
      exact hlt a k hk
  · rw [hreq]
    have hmn : m ≠ n := by
      rintro rfl
      rw [hstarting] at hm
      cases hm
    rw [hother m hmn] at hm
    exact h.asked m hm
  · by_cases hmn : m = n
    · rw [hmn, hb]
      rfl
    · rw [hother m hmn] at hm ⊢
      exact h.begun m hm

end

end Sys2Proof.Machine
end

section
/-! PROOFS. The laws of the lists, the stamps and the records through the events at one record (R74, R90 to R102, R131 to
R136, R143, R150, R152). -/

namespace Sys2Proof.Machine

/-! ## What a record's laws read -/

/-- The fields of a record that its laws and its place go by, but for its window. -/
def Load.standing (r : Load) : Load :=
  { state := r.state, cls := r.cls, request := r.request, reason := r.reason, shed := r.shed, waitHold := r.waitHold
    waitMinOn := r.waitMinOn, retryTimer := r.retryTimer, requestStamp := r.requestStamp, startStamp := r.startStamp }

/-- A change that none of the laws reads, but that a window may close. -/
structure Load.Quiet (r r' : Load) : Prop where
  standing : r'.standing = r.standing
  window : r'.window = r.window ∨ r'.window = .closed
  vacant : r = {} → r' = {}

theorem Load.Quiet.refl (r : Load) : r.Quiet r := ⟨rfl, .inl rfl, id⟩

/-- A change of an enrolled record. -/
theorem Load.Quiet.of_enrolled {r r' : Load} (hv : r.state ≠ .vacant) (hs : r'.standing = r.standing)
    (hw : r'.window = r.window) : r.Quiet r' := ⟨hs, .inl hw, fun h => absurd (congrArg Load.state h) hv⟩

theorem Load.Quiet.state {r r' : Load} (h : r.Quiet r') : r'.state = r.state := (congrArg Load.state h.standing :)

theorem Load.Quiet.samePlace {r r' : Load} (h : r.Quiet r') : r.SamePlace r' :=
  .of_state h.state (fun _ => (congrArg Load.cls h.standing :)) (congrArg Load.requestStamp h.standing :)
    (congrArg Load.startStamp h.standing :)

theorem Load.Quiet.lawful {r r' : Load} (h : r.Quiet r') (hr : r.lawful) : r'.lawful := by
  have hs := h.state
  have hc : r'.cls = r.cls := (congrArg Load.cls h.standing :)
  have hq : r'.request = r.request := (congrArg Load.request h.standing :)
  have hy : r'.reason = r.reason := (congrArg Load.reason h.standing :)
  have hd : r'.shed = r.shed := (congrArg Load.shed h.standing :)
  have hw : r'.waitHold = r.waitHold := (congrArg Load.waitHold h.standing :)
  have hm : r'.waitMinOn = r.waitMinOn := (congrArg Load.waitMinOn h.standing :)
  have ht : r'.retryTimer = r.retryTimer := (congrArg Load.retryTimer h.standing :)
  have ha : r'.requestStamp = r.requestStamp := (congrArg Load.requestStamp h.standing :)
  have hb : r'.startStamp = r.startStamp := (congrArg Load.startStamp h.standing :)
  obtain ⟨hrequest, hstamps, hreason, hmarks, hwindow, hessential, hretry, hvacant⟩ := hr
  refine ⟨?_, ?_, ?_, ?_, ?_, ?_, ?_, fun hv => h.vacant (hvacant (hs ▸ hv))⟩
  · rwa [Load.requestLaw, hs, hq, hy]
  · rwa [Load.stampsLaw, ha, hb, Load.on, hs, hq]
  · rwa [Load.reasonLaw, hs, hy]
  · rwa [Load.marksLaw, hs, hw, hm, hd]
  · rw [Load.windowLaw, hs]
    obtain hsame | hclosed := h.window
    · rwa [hsame]
    · rw [hclosed]
      rfl
  · rwa [Load.essentialLaw, hy, hc]
  · rwa [Load.retryLaw, hs, ht]

theorem Load.quiet_window {r : Load} {w : Window} (h : w = r.window ∨ w = .closed) : r.Quiet { r with window := w } :=
  ⟨rfl, h, by rintro rfl; obtain rfl | rfl := h <;> rfl⟩

/-! ## The laws of a record, by its state -/

/-- A record that has entered STANDBY. -/
theorem Load.lawful_standby {r : Load} (hs : r.state = .standby) (hq : r.request = true)
    (ha : r.requestStamp.isSome = true) (hb : r.startStamp = none) (hr : ∃ why, r.reason = .standby why)
    (hw : r.waitHold = false ∧ r.waitMinOn = false) (hwin : r.window = .closed) (ht : r.retryTimer = none) : r.lawful := by
  obtain ⟨why, hr⟩ := hr
  refine ⟨?_, ?_, ?_, ?_, ?_, ?_, ?_, ?_⟩
  case refine_3 => cases why <;> simp [Load.reasonLaw, hs, hr]
  all_goals simp [Load.requestLaw, Load.stampsLaw, Load.marksLaw, Load.windowLaw, Load.essentialLaw, Load.retryLaw,
    Load.vacantLaw, Window.fits, Load.on, *]

/-- A record that is off and asked for nothing: IDLE or LOCKED. -/
theorem Load.lawful_off {r : Load} (hs : r.state = .idle ∨ r.state = .locked) (hq : r.request = false)
    (ha : r.requestStamp = none) (hb : r.startStamp = none) (hr : r.reason = .none) (hd : r.shed = false)
    (hw : r.waitHold = false ∧ r.waitMinOn = false) (hwin : r.window = .closed) (ht : r.retryTimer = none) : r.lawful := by
  obtain hs | hs := hs <;>
  simp [Load.lawful, Load.requestLaw, Load.stampsLaw, Load.reasonLaw, Load.marksLaw, Load.windowLaw, Load.essentialLaw,
    Load.retryLaw, Load.vacantLaw, Window.fits, Load.on, *]

/-- What a record in none of the lists' states holds, by the laws (R19, R20, R92, R158). -/
theorem Load.lawful.off {r : Load} (h : r.lawful) (hon : r.on = false) (hs : r.state ≠ .standby) :
    r.startStamp = none ∧ r.reason = .none ∧ r.shed = false ∧ r.waitHold = false ∧ r.waitMinOn = false
      ∧ r.window = .closed := by
  obtain ⟨-, ⟨-, hstart⟩, ⟨hstandby, hdeferred⟩, ⟨hwaits, hshed⟩, hwindow, -⟩ := h
  have hnd : r.state ≠ .deferred := fun hd => by simp [Load.on, hd] at hon
  refine ⟨by simpa [hon] using hstart, ?_, ?_, ?_⟩
  · cases hr : r.reason with
    | none => rfl
    | standby why => exact absurd (hstandby.mpr ⟨why, by cases why <;> simp, hr⟩) hs
    | deferred cause => exact absurd (hdeferred.mpr ⟨cause, by cases cause <;> simp, hr⟩) hnd
  · exact Bool.eq_false_iff.mpr fun hd => hs (hshed hd)
  · have hnone : r.waitHold = false ∧ r.waitMinOn = false := by
      rw [beq_eq_false_iff_ne.mpr hnd] at hwaits
      simpa using hwaits
    refine ⟨hnone.1, hnone.2, ?_⟩
    cases hw : r.window with
    | closed => rfl
    | settling o => simp [Load.windowLaw, hw, Window.fits] at hwindow; simp [Load.on, hwindow] at hon
    | closing o => simp [Load.windowLaw, hw, Window.fits] at hwindow; simp [Load.on, hwindow] at hon

/-- What a record in STANDBY holds (R19, R20, R74, R91, R92). -/
theorem Load.lawful.standby {r : Load} (h : r.lawful) (hs : r.state = .standby) :
    r.request = true ∧ r.requestStamp.isSome = true ∧ r.startStamp = none ∧ r.waitHold = false ∧ r.waitMinOn = false
      ∧ r.window = .closed ∧ r.retryTimer = none ∧ ∃ why, r.reason = .standby why := by
  obtain ⟨⟨-, hreq, -⟩, ⟨hasked, hstart⟩, ⟨hstandby, -⟩, ⟨hwaits, -⟩, hwindow, -, hretry, -⟩ := h
  obtain ⟨why, -, hwhy⟩ := hstandby.mp hs
  have hnone : r.waitHold = false ∧ r.waitMinOn = false := by
    have hnone : (r.waitHold || r.waitMinOn) = false := by rw [hwaits, hs]; rfl
    simpa using hnone
  have hb : r.startStamp.isSome = false := by rw [hstart, Load.on, hs]; rfl
  have ht : r.retryTimer.isSome = false := by rw [hretry, hs]; rfl
  refine ⟨hreq (by simp [hs]), by rw [hasked, hs]; rfl, by simpa using hb, hnone.1, hnone.2, ?_, by simpa using ht, why,
    hwhy⟩
  cases hw : r.window with
  | closed => rfl
  | settling o => simp [Load.windowLaw, hw, Window.fits, hs] at hwindow
  | closing o => simp [Load.windowLaw, hw, Window.fits, hs] at hwindow

/-- The start of a record in STANDBY (R98). -/
theorem Load.lawful_started {r : Load} (h : r.lawful) (hs : r.state = .standby) (stamp : Nat) (w : Window)
    (hw : w.fits .starting = true) : ({ r.started stamp with window := w } : Load).lawful := by
  obtain ⟨hq, ha, -, hwh, hwm, -, ht, -⟩ := h.standby hs
  simp [Load.lawful, Load.requestLaw, Load.stampsLaw, Load.reasonLaw, Load.marksLaw, Load.windowLaw, Load.essentialLaw, Load.retryLaw,
    Load.vacantLaw, Load.on, Load.started, hq, ha, hwh, hwm, ht, hw]

/-- What the cut of an on record asks of it, by the cause it may carry: a request OFF for REQUEST_OFF, a request ON with its
stamp for any other (R74, R91). -/
def Load.CauseLaw (r : Load) : Prop :=
  (r.reason = .deferred .requestOff → r.request = false)
    ∧ (r.reason ≠ .deferred .requestOff → r.request = true ∧ r.requestStamp.isSome = true)

/-- An on record holds its stamps, and its request accords with its cause. -/
theorem Load.lawful.on_law {r : Load} (h : r.lawful) (hon : r.on = true) :
    r.CauseLaw ∧ r.requestStamp.isSome = true ∧ r.startStamp.isSome = true ∧ r.shed = false ∧ r.retryTimer = none := by
  obtain ⟨⟨-, hreq, hdef⟩, ⟨hasked, hstart⟩, ⟨-, hdeferred⟩, ⟨-, hshed⟩, -, -, hretry, -⟩ := h
  have hstate : r.state = .starting ∨ r.state = .running ∨ r.state = .deferred := by simpa [Load.on, or_assoc] using hon
  have ha : r.requestStamp.isSome = true := by rw [hasked, hon]; simp
  refine ⟨⟨fun hr => ?_, fun hr => ⟨?_, ha⟩⟩, ha, by rw [hstart, hon], ?_, ?_⟩
  · have hd := hdeferred.mpr ⟨.requestOff, by simp, hr⟩
    have hiff := hdef hd
    rw [hr] at hiff
    simpa using hiff
  · obtain hs | hs | hs := hstate
    · exact hreq (by simp [hs])
    · exact hreq (by simp [hs])
    · obtain ⟨cause, hc, hcause⟩ := hdeferred.mp hs
      cases cause with
      | budget => exact (hdef hs).mpr hcause
      | requestOff => exact absurd hcause hr
  · exact Bool.eq_false_iff.mpr fun hd => by
      have := hshed hd
      simp [Load.on, this] at hon
  · have hnt : r.state ≠ .tripped := by
      rintro ht
      simp [Load.on, ht] at hon
    rw [Load.retryLaw, beq_eq_false_iff_ne.mpr hnt] at hretry
    simpa using hretry

theorem Load.lawful_cutStandby {r : Load} (hq : r.request = true) (ha : r.requestStamp.isSome = true)
    (forced shed : Bool) : (r.cutStandby forced shed).lawful :=
  Load.lawful_standby rfl hq ha rfl ⟨_, rfl⟩ ⟨rfl, rfl⟩ rfl rfl

theorem Load.lawful_cutIdle {r : Load} (hq : r.request = false) : r.cutIdle.lawful :=
  Load.lawful_off (.inl rfl) hq rfl rfl rfl rfl ⟨rfl, rfl⟩ rfl rfl

theorem Load.lawful_cutByCause {r : Load} (hc : r.CauseLaw) (forced : Bool) : (r.cutByCause forced).lawful := by
  unfold Load.cutByCause
  split
  case isTrue hr => exact Load.lawful_cutIdle (hc.1 hr)
  case isFalse hr => exact Load.lawful_cutStandby (hc.2 hr).1 (hc.2 hr).2 forced true

/-- A DEFERRED record with a wait (R114, R131). -/
theorem Load.lawful_deferWith {r : Load} (h : r.lawful) (hon : r.on = true) {cause : DeferCause} {hold minOn : Bool}
    (hw : (hold || minOn) = true) (hq : r.request = true ↔ cause = .budget) (hc : cause = .budget → r.cls ≠ 0) :
    (r.deferWith cause hold minOn).lawful := by
  obtain ⟨-, ha, hb, hd, ht⟩ := h.on_law hon
  have hw' : hold = true ∨ minOn = true := by simpa using hw
  refine ⟨?_, ?_, ?_, ?_, ?_, ?_, ?_, ?_⟩
  case refine_1 => simp [Load.requestLaw, Load.deferWith, hq]
  case refine_3 => cases cause <;> simp [Load.reasonLaw, Load.deferWith]
  case refine_6 => simpa [Load.essentialLaw, Load.deferWith] using hc
  all_goals simp [Load.stampsLaw, Load.marksLaw, Load.windowLaw, Load.retryLaw, Load.vacantLaw, Window.fits, Load.on,
    Load.deferWith, ha, hb, hd, ht, hw']

/-- A record that returns to RUNNING asks for its output (R21, R85). -/
theorem Load.lawful_backToRunning {r : Load} (hq : r.request = true) (ha : r.requestStamp.isSome = true)
    (hb : r.startStamp.isSome = true) (hd : r.shed = false) (hw : r.window = .closed) (ht : r.retryTimer = none) :
    r.backToRunning.lawful := by
  simp [Load.lawful, Load.requestLaw, Load.stampsLaw, Load.reasonLaw, Load.marksLaw, Load.windowLaw, Load.essentialLaw,
    Load.retryLaw, Load.vacantLaw, Window.fits, Load.on, Load.backToRunning, hq, ha, hb, hd, hw, ht]

/-- A DEFERRED record has no window (R158). -/
theorem Load.lawful.deferred_window {r : Load} (h : r.lawful) (hs : r.state = .deferred) : r.window = .closed := by
  obtain ⟨-, -, -, -, hwindow, -⟩ := h
  cases hw : r.window with
  | closed => rfl
  | settling o => simp [Load.windowLaw, hw, Window.fits, hs] at hwindow
  | closing o => simp [Load.windowLaw, hw, Window.fits, hs] at hwindow

/-! ## Events that no law reads -/

section
variable {s t : State} {n : Channel}

theorem State.recordsLaw_of_others (ho : t.others n = s.others n) (h : ∀ m, m ≠ n → (s.load m).lawful)
    (hn : (t.load n).lawful) : t.recordsLaw := fun m => by
  by_cases hm : m = n
  · exact hm ▸ hn
  · rw [State.load_of_others ho hm]
    exact h m hm

theorem State.listsInOrder_of_quiet (h : s.listsInOrder) (he : t.engine.places = s.engine.places)
    (hr : ∀ m, (s.load m).Quiet (t.load m)) : t.listsInOrder := by
  obtain ⟨hl, hp⟩ := State.listsInOrder_iff.mp h
  exact State.listsInOrder_iff.mpr ⟨fun m => (hr m).lawful (hl m), hp.of_samePlace he fun m => (hr m).samePlace⟩

theorem State.listsInOrder_of_loads (h : s.listsInOrder) (he : t.engine.places = s.engine.places)
    (hl : t.loads = s.loads) : t.listsInOrder :=
  State.listsInOrder_of_quiet h he fun m => by
    rw [State.load, State.load, hl]
    exact .refl _

theorem State.listsInOrder_modify {f : Load → Load} (h : s.listsInOrder) (hr : (s.load n).Quiet (f (s.load n))) :
    (s.modify n f).listsInOrder :=
  State.listsInOrder_of_quiet h rfl fun m => by
    rw [s.load_modify]
    split
    case isTrue hm => exact hm ▸ hr
    case isFalse => exact .refl _

theorem State.listsInOrder_mapLoads {f : Channel → Load → Load} (h : s.listsInOrder)
    (hr : ∀ m, (s.load m).Quiet (f m (s.load m))) : (s.mapLoads f).listsInOrder :=
  State.listsInOrder_of_quiet h rfl fun m => by rw [s.load_mapLoads]; exact hr m

theorem State.listsInOrder_sweepWindows (h : s.listsInOrder) : s.sweepWindows.listsInOrder :=
  State.listsInOrder_mapLoads h fun m => Load.quiet_window (Window.swept_cases m s.outputs _)

theorem State.listsInOrder_raise (g : Flag) (h : s.listsInOrder) : (s.raise g).listsInOrder :=
  State.listsInOrder_of_loads h rfl rfl

theorem State.listsInOrder_refuse (h : s.listsInOrder) : s.refuse.listsInOrder := State.listsInOrder_of_loads h rfl rfl

theorem State.listsInOrder_refuseIf (b : Bool) (h : s.listsInOrder) : (s.refuseIf b).listsInOrder := by
  cases b
  · exact h
  · exact State.listsInOrder_refuse h

/-- A record in neither list. -/
theorem State.Placed.not_mem (h : s.Placed) (hon : (s.load n).on = false) (hs : (s.load n).state ≠ .standby) :
    n ∉ s.engine.runList ∧ n ∉ s.engine.standbyList := by
  obtain ⟨honrun, honstandby, -, -⟩ := h.lists
  rw [honrun, honstandby, hon]
  exact ⟨nofun, hs⟩

/-! ## Starts (R98, R102) -/

theorem State.listsInOrder_start (h : s.listsInOrder) (n : Channel) : (s.start n).listsInOrder := by
  obtain ⟨hr, hp⟩ := State.listsInOrder_iff.mp h
  refine State.listsInOrder_iff.mpr ⟨?_, hp.start n⟩
  by_cases hmade : (s.load n).state = .standby ∧ s.engine.exhausted = false
  case neg => rwa [s.start_refused hmade]
  refine State.recordsLaw_of_others (s.start_others n) (fun m _ => hr m) ?_
  rw [s.load_start hmade.1 hmade.2, if_pos rfl]
  refine Load.lawful_started (hr n) hmade.1 _ _ ?_
  split <;> rfl

theorem State.listsInOrder_essentialCheck (h : s.listsInOrder) (n : Channel) : (s.essentialCheck n).listsInOrder := by
  obtain hc | ⟨hc, -⟩ := s.essentialCheck_cases n
  · rwa [hc]
  · rw [hc]
    exact State.listsInOrder_start h n

theorem State.listsInOrder_foldl {f : State → Channel → State} (hf : ∀ t n, t.listsInOrder → (f t n).listsInOrder)
    (l : List Channel) (h : s.listsInOrder) : (l.foldl f s).listsInOrder := by
  induction l generalizing s with
  | nil => exact h
  | cons n l ih => exact ih (hf s n h)

theorem State.listsInOrder_essentialSweep (h : s.listsInOrder) : s.essentialSweep.listsInOrder :=
  State.listsInOrder_foldl (fun _ n ht => State.listsInOrder_essentialCheck ht n) _ h

/-! ## Into STANDBY and out of the lists (R93, R100) -/

theorem State.Placed.enterStandby (h : s.Placed) (hon : (s.load n).on = false) (hs : (s.load n).state ≠ .standby)
    (ha : (s.load n).requestStamp.isSome = true) (hb : (s.load n).startStamp = none) : (s.enterStandby n).Placed := by
  obtain ⟨hrun, hstandby⟩ := h.not_mem hon hs
  have hload := s.load_enterStandby n n
  rw [if_pos rfl] at hload
  refine h.inserted (s.enterStandby_others n) ?_ (by rw [hload]) (by rw [hload]) (by rw [hload]; exact ha)
    (by rw [hload]; exact hb)
  rw [List.erase_of_not_mem hrun, List.erase_of_not_mem hstandby]
  rfl

/-- A record out of both lists that enters STANDBY with its request ON and its stamp (R18, R91). -/
theorem State.listsInOrder_enterStandby (hp : s.Placed) (hr : ∀ m, m ≠ n → (s.load m).lawful)
    (hon : (s.load n).on = false) (hs : (s.load n).state ≠ .standby) (hq : (s.load n).request = true)
    (ha : (s.load n).requestStamp.isSome = true) (hb : (s.load n).startStamp = none)
    (hw : (s.load n).waitHold = false ∧ (s.load n).waitMinOn = false) (hwin : (s.load n).window = .closed) :
    (s.enterStandby n).listsInOrder := by
  have hload := s.load_enterStandby n n
  rw [if_pos rfl] at hload
  refine State.listsInOrder_iff.mpr ⟨State.recordsLaw_of_others (s.enterStandby_others n) hr ?_, hp.enterStandby hon hs ha hb⟩
  rw [hload]
  exact Load.lawful_standby rfl hq ha hb ⟨_, rfl⟩ hw hwin rfl

theorem State.Placed.forcedCut (h : s.Placed) (hon : (s.load n).on = true)
    (ha : (s.load n).requestStamp.isSome = true) : (s.forcedCut n).Placed := by
  have hload := State.load_forcedCut_self hon
  have hstandby : n ∉ s.engine.standbyList := State.not_mem_standbyList h.lists fun hs => by simp [Load.on, hs] at hon
  refine h.inserted (s.forcedCut_others n) ?_ (by rw [hload]) (by rw [hload]) (by rw [hload]; exact ha) (by rw [hload])
  rw [List.erase_of_not_mem hstandby, State.forcedCut, if_pos hon]
  rfl

/-- A budget cut is the cut to STANDBY with its mark, its attention and its timer (R100, R122). -/
theorem State.budgetCut_eq (hon : (s.load n).on = true) :
    (∀ m, (s.budgetCut n).load m = ((s.forcedCut n).modify n fun r => { r with shed := true }).load m)
      ∧ (s.budgetCut n).engine.places = (s.forcedCut n).engine.places := by
  rw [State.budgetCut, State.forcedCut, if_pos hon, if_pos hon]
  exact ⟨fun _ => rfl, rfl⟩

theorem State.Placed.budgetCut (h : s.Placed) (hon : (s.load n).on = true)
    (ha : (s.load n).requestStamp.isSome = true) : (s.budgetCut n).Placed := by
  obtain ⟨hl, he⟩ := State.budgetCut_eq hon
  have hmarked : ((s.forcedCut n).modify n fun r => { r with shed := true }).Placed :=
    (h.forcedCut hon ha).modify (.of_state rfl (fun _ => rfl) rfl rfl)
  refine hmarked.of_samePlace he fun m => ?_
  rw [hl m]
  exact .refl _

theorem State.Placed.cutToIdle (h : s.Placed) (hon : (s.load n).on = true) : (s.cutToIdle n).Placed := by
  have hload := State.load_cutToIdle_self hon
  have hstandby : n ∉ s.engine.standbyList := State.not_mem_standbyList h.lists fun hs => by simp [Load.on, hs] at hon
  refine h.dropped (s.cutToIdle_others n) ?_ (by rw [hload]; rfl) (by rw [hload]; nofun) (.inr (by rw [hload]))
    (by rw [hload])
  rw [State.engine_cutToIdle hon, List.erase_of_not_mem hstandby]
  rfl

theorem State.listsInOrder_cutToIdle (hp : s.Placed) (hr : ∀ m, m ≠ n → (s.load m).lawful)
    (hon : (s.load n).on = true) (hq : (s.load n).request = false) : (s.cutToIdle n).listsInOrder := by
  refine State.listsInOrder_iff.mpr ⟨State.recordsLaw_of_others (s.cutToIdle_others n) hr ?_, hp.cutToIdle hon⟩
  rw [State.load_cutToIdle_self hon]
  exact Load.lawful_cutIdle hq

/-- The cut of an on record by its cause, of a record that need not have a wait left (R101, R136). -/
theorem State.listsInOrder_deferredCut (hp : s.Placed) (hr : ∀ m, m ≠ n → (s.load m).lawful)
    (hon : (s.load n).on = true) (hc : (s.load n).CauseLaw) : (s.deferredCut n).listsInOrder := by
  obtain ⟨hcut, hreason⟩ | ⟨hcut, hreason⟩ := s.deferredCut_cases n
  · rw [hcut]
    exact State.listsInOrder_cutToIdle hp hr hon (hc.1 hreason)
  · obtain ⟨hq, ha⟩ := hc.2 hreason
    rw [hcut]
    refine State.listsInOrder_iff.mpr ⟨State.recordsLaw_of_others (s.budgetCut_others n) hr ?_, hp.budgetCut hon ha⟩
    rw [State.load_budgetCut_self hon]
    exact Load.lawful_cutStandby hq ha _ _

/-- A budget cut of an on record with no REQUEST_OFF deferral (R100). -/
theorem State.listsInOrder_budgetCut (hp : s.Placed) (hr : ∀ m, m ≠ n → (s.load m).lawful) (hon : (s.load n).on = true)
    (hc : (s.load n).CauseLaw) (hreason : (s.load n).reason ≠ .deferred .requestOff) : (s.budgetCut n).listsInOrder := by
  obtain ⟨-, h⟩ | ⟨hcut, -⟩ := s.deferredCut_cases n
  · exact absurd h hreason
  · rw [← hcut]
    exact State.listsInOrder_deferredCut hp hr hon hc

/-- The end of a wait of a DEFERRED record: it stays with the wait that is left, or is cut (R131, R136). -/
theorem State.listsInOrder_endWait {f : Load → Load} (h : s.listsInOrder) (hs : (s.load n).state = .deferred)
    (hf : (f (s.load n)).standing =
      { (s.load n).standing with waitHold := (f (s.load n)).waitHold, waitMinOn := (f (s.load n)).waitMinOn })
    (hw : (f (s.load n)).window = (s.load n).window) : ((s.modify n f).cutIfNoWait n).listsInOrder := by
  obtain ⟨hr, hp⟩ := State.listsInOrder_iff.mp h
  have hload := s.load_modify_self n f
  have hstate : (f (s.load n)).state = (s.load n).state := (congrArg Load.state hf :)
  have hq : (f (s.load n)).request = (s.load n).request := (congrArg Load.request hf :)
  have hy : (f (s.load n)).reason = (s.load n).reason := (congrArg Load.reason hf :)
  have ha : (f (s.load n)).requestStamp = (s.load n).requestStamp := (congrArg Load.requestStamp hf :)
  have hb : (f (s.load n)).startStamp = (s.load n).startStamp := (congrArg Load.startStamp hf :)
  have hcls : (f (s.load n)).cls = (s.load n).cls := (congrArg Load.cls hf :)
  have hplaced : (s.modify n f).Placed := hp.modify (.of_state hstate (fun _ => hcls) ha hb)
  have hothers : ∀ m, m ≠ n → ((s.modify n f).load m).lawful := fun m hm => by
    rw [s.load_modify_of_ne f hm]
    exact hr m
  obtain ⟨hcause, hasked, -⟩ := (hr n).on_law (Load.on_of_deferred hs)
  simp only [State.cutIfNoWait, hload, hstate, hs]
  split
  case isTrue hnone =>
    refine State.listsInOrder_deferredCut hplaced hothers ?_ ?_
    · rw [hload, Load.on_of_deferred (hstate.trans hs)]
    · rw [hload, Load.CauseLaw, hy, hq, ha]
      exact hcause
  case isFalse hleft =>
    have hwait : ((f (s.load n)).waitHold || (f (s.load n)).waitMinOn) = true := by
      cases hwh : (f (s.load n)).waitHold <;> cases hwm : (f (s.load n)).waitMinOn <;> simp_all
    refine State.listsInOrder_iff.mpr ⟨fun m => ?_, hplaced⟩
    by_cases hm : m = n
    · subst hm
      obtain ⟨hrequest, hstamps, hreason, ⟨-, hshed⟩, hwindow, hessential, hretry, hvacant⟩ := hr m
      have hd : (f (s.load m)).shed = (s.load m).shed := (congrArg Load.shed hf :)
      have ht : (f (s.load m)).retryTimer = (s.load m).retryTimer := (congrArg Load.retryTimer hf :)
      rw [hload]
      refine ⟨?_, ?_, ?_, ⟨?_, ?_⟩, ?_, ?_, ?_, ?_⟩
      · rwa [Load.requestLaw, hstate, hq, hy]
      · rwa [Load.stampsLaw, ha, hb, Load.on, hstate, hq]
      · rwa [Load.reasonLaw, hstate, hy]
      · rw [hwait, hstate, hs]
        rfl
      · rwa [hd, hstate]
      · rwa [Load.windowLaw, hw, hstate]
      · rwa [Load.essentialLaw, hy, hcls]
      · rwa [Load.retryLaw, ht, hstate]
      · intro hv
        rw [hstate, hs] at hv
        cases hv
    · exact hothers m hm

theorem State.listsInOrder_endHoldWait (h : s.listsInOrder) (hs : (s.load n).state = .deferred) :
    (s.endHoldWait n).listsInOrder := State.listsInOrder_endWait h hs rfl rfl

theorem State.listsInOrder_endMinOnWait (h : s.listsInOrder) (hs : (s.load n).state = .deferred) :
    (s.endMinOnWait n).listsInOrder := State.listsInOrder_endWait h hs rfl rfl

theorem State.listsInOrder_releaseHold (h : s.listsInOrder) (line : HoldLine) : (s.releaseHold line).listsInOrder := by
  unfold State.releaseHold
  refine State.listsInOrder_foldl (fun t n ht => ?_) channels h
  split
  case isTrue hw =>
    obtain ⟨⟨hs, -⟩, -⟩ : ((t.load n).state = .deferred ∧ (t.load n).waitHold = true) ∧ (t.load n).holdLine = some line := by
      simpa [Load.waitsOn] using hw
    exact State.listsInOrder_endHoldWait ht hs
  case isFalse => exact ht

theorem State.listsInOrder_forceOffRecord (h : s.listsInOrder) (n : Channel) : (s.forceOffRecord n).listsInOrder := by
  obtain ⟨hr, hp⟩ := State.listsInOrder_iff.mp h
  by_cases hon : (s.load n).on = true
  · obtain ⟨hc, ha, -⟩ := (hr n).on_law hon
    unfold State.forceOffRecord
    split
    case h_1 hreason => exact State.listsInOrder_cutToIdle hp (fun m _ => hr m) hon (hc.1 hreason)
    case h_2 hreason =>
      refine State.listsInOrder_iff.mpr ⟨State.recordsLaw_of_others (s.forcedCut_others n) (fun m _ => hr m) ?_,
        hp.forcedCut hon ha⟩
      rw [State.load_forcedCut_self hon]
      exact Load.lawful_cutStandby (hc.2 hreason).1 ha _ _
  · unfold State.forceOffRecord
    split
    · rwa [State.cutToIdle, if_neg hon]
    · rwa [State.forcedCut, if_neg hon]

/-! ## Trips and retries (R150, R152, R154) -/

theorem Load.lawful_tripOff {r : Load} (h : r.lawful) (hon : r.on = true) : r.tripOff.lawful := by
  obtain ⟨-, ha, -, hd, -⟩ := h.on_law hon
  simp only [Load.tripOff]
  split
  · exact Load.lawful_off (.inr rfl) rfl rfl rfl rfl hd ⟨rfl, rfl⟩ rfl rfl
  · cases hq : r.request <;>
    simp [Load.lawful, Load.requestLaw, Load.stampsLaw, Load.reasonLaw, Load.marksLaw, Load.windowLaw, Load.essentialLaw,
      Load.retryLaw, Load.vacantLaw, Window.fits, Load.on, Load.trippedOff, Load.switchedOff, hq, ha, hd]

theorem State.listsInOrder_tripRecord (h : s.listsInOrder) (hon : (s.load n).on = true) :
    (s.tripRecord n).listsInOrder := by
  obtain ⟨hr, hp⟩ := State.listsInOrder_iff.mp h
  have hload := s.load_tripRecord n n
  rw [if_pos rfl] at hload
  have hstandby : n ∉ s.engine.standbyList := State.not_mem_standbyList hp.lists fun hs => by simp [Load.on, hs] at hon
  have hstate : (s.load n).tripOff.state ≠ .standby ∧ (s.load n).tripOff.startStamp = none
      ∧ ((s.load n).tripOff.requestStamp = (s.load n).requestStamp ∨ (s.load n).tripOff.requestStamp = none) := by
    simp only [Load.tripOff]
    split
    · exact ⟨nofun, rfl, .inr rfl⟩
    · refine ⟨nofun, rfl, ?_⟩
      by_cases hq : (s.load n).request = true
      · exact .inl (if_pos hq)
      · exact .inr (if_neg hq)
  refine State.listsInOrder_iff.mpr ⟨State.recordsLaw_of_others (s.tripRecord_others n) (fun m _ => hr m) ?_,
    hp.dropped (s.tripRecord_others n) ?_ ?_ ?_ ?_ ?_⟩
  · rw [hload]
    exact Load.lawful_tripOff (hr n) hon
  · rw [s.engine_tripRecord, List.erase_of_not_mem hstandby]
    rfl
  · rw [hload]
    exact Load.tripOff_off _
  · rw [hload]
    exact hstate.1
  · rw [hload]
    exact hstate.2.2
  · rw [hload]
    exact hstate.2.1

/-- A record out of both lists that changes to another of that kind with the same request stamp or none. -/
theorem State.Placed.modify_off {f : Load → Load} (h : s.Placed) (hon : (s.load n).on = false)
    (hs : (s.load n).state ≠ .standby) (hon' : (f (s.load n)).on = false) (hs' : (f (s.load n)).state ≠ .standby)
    (hq : (f (s.load n)).requestStamp = (s.load n).requestStamp ∨ (f (s.load n)).requestStamp = none)
    (hb : (f (s.load n)).startStamp = (s.load n).startStamp) : (s.modify n f).Placed :=
  h.modify ⟨by rw [hon, hon'], iff_of_false hs' hs, fun h => absurd h hs, hq.imp_right fun h => ⟨h, hs⟩, hb⟩

/-- The retry of a TRIPPED record ends, whatever its timer stands at (R152, R154). -/
theorem State.listsInOrder_retryExpires (hp : s.Placed) (hr : ∀ m, m ≠ n → (s.load m).lawful)
    (hs : (s.load n).state = .tripped) (hrec : ∃ k, ({ s.load n with retryTimer := k } : Load).lawful) :
    (s.retryExpires n).listsInOrder := by
  obtain ⟨k, hrec⟩ := hrec
  have hon : (s.load n).on = false := by simp [Load.on, hs]
  have hns : (s.load n).state ≠ .standby := by rw [hs]; nofun
  obtain ⟨hb, hy, hd, hwh, hwm, hwin⟩ := hrec.off hon hns
  obtain ⟨-, ⟨ha, -⟩, -⟩ := hrec
  unfold State.retryExpires
  split
  case isTrue hq =>
    refine State.listsInOrder_essentialCheck
      (State.listsInOrder_enterStandby hp hr hon hns hq ?_ hb ⟨hwh, hwm⟩ hwin) n
    simpa [hs, hq, Load.on] using ha
  case isFalse hq =>
    refine State.listsInOrder_iff.mpr ⟨State.recordsLaw_of_others (s.modify_others n _) hr ?_,
      hp.modify_off hon hns rfl nofun (.inr rfl) rfl⟩
    rw [s.load_modify_self]
    have hq : (s.load n).request = false := by simpa using hq
    exact Load.lawful_off (.inl rfl) hq rfl hb rfl rfl ⟨hwh, hwm⟩ hwin rfl

/-! ## Arrivals (R81 to R87) -/

theorem State.Placed.takeRequestStamp (h : s.Placed) (hx : s.engine.exhausted = false) (hs : (s.load n).state ≠ .standby) :
    (s.takeRequestStamp n).Placed := by
  have hload := s.load_takeRequestStamp n
  exact h.newRequestStamp hx (s.takeRequestStamp_others n) (s.engine_takeRequestStamp n) hs (by rw [hload]) (by rw [hload])
    (by rw [hload])

theorem State.listsInOrder_arriveOn (h : s.listsInOrder) (n : Channel) : (s.arriveOn n).listsInOrder := by
  obtain ⟨hr, hp⟩ := State.listsInOrder_iff.mp h
  have hload := s.load_takeRequestStamp n
  have hothers : ∀ m, m ≠ n → ((s.takeRequestStamp n).load m).lawful := fun m hm => by
    rw [State.load_of_others (s.takeRequestStamp_others n) hm]
    exact hr m
  unfold State.arriveOn
  split
  case isTrue => exact State.listsInOrder_refuse h
  case isFalse hx =>
    have hx : s.engine.exhausted = false := by simpa using hx
    split
    case h_1 hs =>
      have hon : (s.load n).on = false := by simp [Load.on, hs]
      have hns : (s.load n).state ≠ .standby := by rw [hs]; nofun
      obtain ⟨hb, -, -, hwh, hwm, hwin⟩ := (hr n).off hon hns
      refine State.listsInOrder_essentialCheck
        (State.listsInOrder_enterStandby (hp.takeRequestStamp hx hns) hothers ?_ ?_ ?_ ?_ ?_ ?_ ?_) n
      all_goals rw [hload]
      · exact hon
      · exact hns
      · rfl
      · exact hb
      · exact ⟨hwh, hwm⟩
      · exact hwin
    case h_2 hs =>
      have hns : (s.load n).state ≠ .standby := by rw [hs]; nofun
      have hon : (s.load n).on = true := Load.on_of_deferred hs
      obtain ⟨-, -, hb, hd, ht⟩ := (hr n).on_law hon
      refine State.listsInOrder_iff.mpr ⟨State.recordsLaw_of_others (State.modify_others _ n _) hothers ?_,
        (hp.takeRequestStamp hx hns).modify ?_⟩
      · rw [State.load_modify_self, hload]
        exact Load.lawful_backToRunning rfl rfl hb hd ((hr n).deferred_window hs) ht
      · rw [hload]
        exact ⟨by rw [show ∀ r : Load, r.backToRunning.on = true from fun _ => rfl]; exact hon.symm,
          by simp [Load.backToRunning, hs], fun h => absurd h hns, .inl rfl, rfl⟩
    case h_3 hs =>
      have hns : (s.load n).state ≠ .standby := by rw [hs]; nofun
      obtain ⟨hb, hy, hd, hwh, hwm, hwin⟩ := (hr n).off (by simp [Load.on, hs]) hns
      obtain ⟨-, -, -, -, -, -, ht, -⟩ := hr n
      refine State.listsInOrder_iff.mpr ⟨State.recordsLaw_of_others (s.takeRequestStamp_others n) (fun m _ => hr m) ?_,
        hp.takeRequestStamp hx hns⟩
      rw [hload]
      have ht : (s.load n).retryTimer.isSome = true := by rw [ht, hs]; rfl
      simp [Load.lawful, Load.requestLaw, Load.stampsLaw, Load.reasonLaw, Load.marksLaw, Load.windowLaw, Load.essentialLaw,
        Load.retryLaw, Load.vacantLaw, Window.fits, Load.on, hs, hb, hy, hd, hwh, hwm, hwin, ht]
    case h_4 => exact State.listsInOrder_refuse h
    all_goals exact h

theorem State.listsInOrder_arriveOff (h : s.listsInOrder) (n : Channel) :
    (s.arriveOff n).listsInOrder := by
  obtain ⟨hr, hp⟩ := State.listsInOrder_iff.mp h
  have hload := s.load_modify_self n fun r => { r with request := false }
  have hplaced : (s.modify n fun r => { r with request := false }).Placed := hp.modify (.of_state rfl (fun _ => rfl) rfl rfl)
  have hothers : ∀ m, m ≠ n → ((s.modify n fun r => { r with request := false }).load m).lawful := fun m hm => by
    rw [s.load_modify_of_ne _ hm]
    exact hr m
  have hoff : (s.load n).on = true → ((s.modify n fun r => { r with request := false }).offWhileOn n).listsInOrder := by
    intro hon
    unfold State.offWhileOn
    split
    case isTrue =>
      obtain ⟨-, ha, hb, hd, ht⟩ := (hr n).on_law hon
      refine State.listsInOrder_iff.mpr ⟨State.recordsLaw_of_others (State.modify_others _ n _) hothers ?_,
        hplaced.modify ?_⟩
      · rw [State.load_modify_self, hload]
        refine ⟨?_, ?_, ?_, ?_, ?_, ?_, ?_, ?_⟩
        all_goals simp [Load.lawful, Load.requestLaw, Load.stampsLaw, Load.reasonLaw, Load.marksLaw, Load.windowLaw,
          Load.essentialLaw, Load.retryLaw, Load.vacantLaw, Window.fits, Load.on, Load.deferWith, ha, hb, hd, ht]
      · have hns : (s.load n).state ≠ .standby := fun hs => by simp [Load.on, hs] at hon
        rw [hload]
        exact ⟨hon.symm, by simp [Load.deferWith, hns], fun h => absurd h hns, .inl rfl, rfl⟩
    case isFalse => exact State.listsInOrder_cutToIdle hplaced hothers (by rw [hload]; exact hon) (by rw [hload])
  simp only [State.arriveOff]
  split
  case h_1 hs =>
    obtain ⟨-, -, hb, hwh, hwm, hwin, -⟩ := (hr n).standby hs
    have hfinal : ((((s.modify n fun r => { r with request := false }).modify n Load.toIdle).leaveStandby n).load n) =
        Load.toIdle { s.load n with request := false } := by
      rw [State.load_leaveStandby, State.load_modify_self, hload]
    have hrun : n ∉ s.engine.runList := by
      obtain ⟨honrun, -⟩ := hp.lists
      rw [honrun]
      simp [Load.on, hs]
    refine State.listsInOrder_iff.mpr ⟨State.recordsLaw_of_others (n := n) (s := s) (by simp) (fun m _ => hr m) ?_,
      hp.dropped (n := n) (by simp) ?_ ?_ ?_ (.inr ?_) ?_⟩
    · rw [hfinal]
      exact Load.lawful_off (.inl rfl) rfl rfl hb rfl rfl ⟨hwh, hwm⟩ hwin rfl
    · rw [List.erase_of_not_mem hrun]
      rfl
    all_goals rw [hfinal]
    · rfl
    · nofun
    · rfl
    · exact hb
  case h_2 hs => exact hoff (by simp [Load.on, hs])
  case h_3 hs => exact hoff (by simp [Load.on, hs])
  case h_4 hs =>
    have hns : (s.load n).state ≠ .standby := by rw [hs]; nofun
    have hon : (s.load n).on = true := Load.on_of_deferred hs
    obtain ⟨-, ha, hb, hd, ht⟩ := (hr n).on_law hon
    have hwin := (hr n).deferred_window hs
    have hwait : ((s.load n).waitHold || (s.load n).waitMinOn) = true := by
      obtain ⟨-, -, -, ⟨hwaits, -⟩, -⟩ := hr n
      rw [hwaits, hs]
      rfl
    have hwait : (s.load n).waitHold = true ∨ (s.load n).waitMinOn = true := by simpa using hwait
    refine State.listsInOrder_iff.mpr ⟨State.recordsLaw_of_others (State.modify_others _ n _) hothers ?_,
      hplaced.modify (.of_state rfl (fun _ => rfl) rfl rfl)⟩
    rw [State.load_modify_self, hload]
    simp [Load.lawful, Load.requestLaw, Load.stampsLaw, Load.reasonLaw, Load.marksLaw, Load.windowLaw, Load.essentialLaw,
      Load.retryLaw, Load.vacantLaw, Window.fits, Load.on, hs, hb, ha, hd, ht, hwin, hwait]
  case h_5 hs =>
    have hns : (s.load n).state ≠ .standby := by rw [hs]; nofun
    have hon : (s.load n).on = false := by simp [Load.on, hs]
    obtain ⟨hb, -, -, hwh, hwm, hwin⟩ := (hr n).off hon hns
    refine State.listsInOrder_iff.mpr ⟨State.recordsLaw_of_others (State.modify_others _ n _) hothers ?_,
      hplaced.modify_off ?_ ?_ rfl nofun (.inr rfl) rfl⟩
    · rw [State.load_modify_self, hload]
      exact Load.lawful_off (.inl rfl) rfl rfl hb rfl rfl ⟨hwh, hwm⟩ hwin rfl
    · rw [hload]
      exact hon
    · rw [hload]
      exact hns
  all_goals exact h

theorem State.listsInOrder_setRequest (h : s.listsInOrder) (n : Channel) (on : Bool) :
    (s.setRequest n on).listsInOrder := by
  unfold State.setRequest
  split
  case isTrue => exact h
  case isFalse =>
    split
    · exact State.listsInOrder_arriveOn h n
    · exact State.listsInOrder_arriveOff h n

theorem State.listsInOrder_switchEvent (h : s.listsInOrder) (n : Channel) (press : Bool) :
    (s.switchEvent n press).listsInOrder := by
  simp only [State.switchEvent]
  split
  · split
    · exact State.listsInOrder_setRequest h n _
    · exact h
  · exact h

end

end Sys2Proof.Machine
end

section
/-! PROOFS. The laws of the lists, the stamps and the records through commits, evaluations, start-up and every command. -/

namespace Sys2Proof.Machine

section
variable {s t : State} {n : Channel}

/-! ## Commits of a load record (R11 to R16, R21) -/

theorem Load.standing_withFields (setup : Bool) (mask : Option Wide) (w : LoadWords) (r : Load) :
    (r.withFields setup mask w).standing = r.standing ∧ (r.withFields setup mask w).window = r.window := by
  unfold Load.withFields
  split <;> exact ⟨rfl, rfl⟩

theorem Load.quiet_keepLine (r r' : Load) : r'.Quiet (r.keepLine r') := by
  unfold Load.keepLine
  split
  case isTrue h =>
    obtain ⟨-, hon⟩ := Bool.and_eq_true_iff.mp h
    exact .of_enrolled (fun hv => by simp [Load.on, hv] at hon) rfl rfl
  case isFalse => exact .refl _

/-- A class change leaves a record that is neither in STANDBY nor newly of class 0 with a BUDGET deferral lawful. -/
theorem Load.lawful_cls {r : Load} (h : r.lawful) (hv : r.state ≠ .vacant) {new : Nat}
    (hb : r.reason = .deferred .budget → new ≠ 0) : ({ r with cls := new } : Load).lawful := by
  obtain ⟨hrequest, hstamps, hreason, hmarks, hwindow, -, hretry, -⟩ := h
  exact ⟨hrequest, hstamps, hreason, hmarks, hwindow, hb, hretry, fun hs => absurd hs hv⟩

theorem State.listsInOrder_changeClass (h : s.listsInOrder) (hv : (s.load n).state ≠ .vacant) (new : Nat) :
    (s.changeClass n new).listsInOrder := by
  obtain ⟨hr, hp⟩ := State.listsInOrder_iff.mp h
  have hload := s.load_modify_self n fun r => { r with cls := new }
  have hothers : ∀ m, m ≠ n → ((s.modify n fun r => { r with cls := new }).load m).lawful := fun m hm => by
    rw [s.load_modify_of_ne _ hm]
    exact hr m
  have hplaced : (s.load n).state ≠ .standby → (s.modify n fun r => { r with cls := new }).Placed := fun hs =>
    hp.modify (.of_state rfl (fun h => absurd h hs) rfl rfl)
  have htaken : (s.load n).state ≠ .standby → ((s.load n).reason = .deferred .budget → new ≠ 0) →
      (s.modify n fun r => { r with cls := new }).listsInOrder := fun hs hb =>
    State.listsInOrder_iff.mpr ⟨State.recordsLaw_of_others (s.modify_others n _) (fun m _ => hr m)
      (by rw [hload]; exact Load.lawful_cls (hr n) hv hb), hplaced hs⟩
  have hoff : (s.load n).state ≠ .standby → (s.load n).state ≠ .deferred →
      (s.modify n fun r => { r with cls := new }).listsInOrder := fun hs hd => htaken hs fun hb => by
    obtain ⟨-, -, ⟨-, hdeferred⟩, -⟩ := hr n
    exact absurd (hdeferred.mpr ⟨_, by simp, hb⟩) hd
  simp only [State.changeClass]
  split
  case h_1 hs =>
    obtain ⟨hq, ha, hb, hwh, hwm, hwin, ht, hwhy⟩ := (hr n).standby hs
    have hfinal : ((((s.modify n fun r => { r with cls := new }).leaveStandby n).joinStandby n).load n) =
        { s.load n with cls := new } := hload
    have hrun : n ∉ s.engine.runList := by
      obtain ⟨honrun, -⟩ := hp.lists
      rw [honrun]
      simp [Load.on, hs]
    refine State.listsInOrder_essentialCheck (State.listsInOrder_iff.mpr
      ⟨State.recordsLaw_of_others (n := n) (s := s) (by simp) (fun m _ => hr m) ?_,
        hp.inserted (n := n) (by simp) ?_ ?_ ?_ ?_ ?_⟩) n
    · rw [hfinal]
      exact Load.lawful_cls (hr n) hv fun hb => by
        obtain ⟨why, hwhy⟩ := hwhy
        rw [hwhy] at hb
        cases hb
    · rw [List.erase_of_not_mem hrun]
      rfl
    all_goals rw [hfinal]
    · exact hs
    · exact ha
    · exact hb
  case h_2 hs =>
    have hns : (s.load n).state ≠ .standby := by rw [hs]; nofun
    split
    case isTrue hb =>
      obtain ⟨⟨-, hc⟩, -, hstart, hd, ht⟩ := (hr n).on_law (Load.on_of_deferred hs)
      obtain ⟨hq, ha⟩ := hc (by rw [hb.2]; nofun)
      refine State.listsInOrder_iff.mpr ⟨State.recordsLaw_of_others (State.modify_others _ n _) hothers ?_,
        (hplaced hns).modify ?_⟩
      · rw [State.load_modify_self, hload]
        exact Load.lawful_backToRunning hq ha hstart hd ((hr n).deferred_window hs) ht
      · rw [hload]
        exact ⟨by rw [show ∀ r : Load, r.backToRunning.on = true from fun _ => rfl]; exact (Load.on_of_deferred hs).symm,
          by simp [Load.backToRunning, hs], fun h => absurd h hns, .inl rfl, rfl⟩
    case isFalse hb => exact htaken hns fun hbudget hnew => hb ⟨hnew, hbudget⟩
  all_goals
    next hs => exact hoff (by rw [hs]; nofun) (by rw [hs]; nofun)

/-- The commands of a load commit keep a record enrolled. -/
theorem State.listsInOrder_commitClass (h : s.listsInOrder) (hv : (s.load n).state ≠ .vacant) (mask : Option Wide)
    (w : LoadWords) (refused : Bool) : (s.commitClass n mask w refused).listsInOrder := by
  unfold State.commitClass
  split
  · split
    · exact State.listsInOrder_refuse h
    · exact State.listsInOrder_changeClass h hv _
  · exact h

theorem State.moveHold_enrolled (hv : (s.load n).state ≠ .vacant) (before : Option HoldLine) :
    ((s.moveHold n before).load n).state ≠ .vacant := by
  obtain ⟨hcase, -⟩ | ⟨hcase, hd, -⟩ := s.moveHold_cases n before
  · rwa [hcase]
  · rw [hcase, State.load_endHoldWait_self hd]
    split
    · rw [hd]
      nofun
    · obtain hc | hc := Load.cutByCause_state s.forceOff.level (s.load n) <;> rw [hc] <;> nofun

theorem State.listsInOrder_commitEnrolled (h : s.listsInOrder) (hv : (s.load n).state ≠ .vacant) (mask : Option Wide)
    (w : LoadWords) : (s.commitEnrolled n mask w).listsInOrder := by
  rw [s.commitEnrolled_eq]
  set u := (s.modify n (Load.withFields s.setup.level mask w)).refuseIf ((s.load n).refuses s.setup.level mask w) with hu
  have huload : u.load n = (s.load n).withFields s.setup.level mask w := by
    rw [hu, State.load_refuseIf, s.load_modify_self]
  obtain ⟨hstanding, hwindow⟩ := Load.standing_withFields s.setup.level mask w (s.load n)
  have hfields : u.listsInOrder :=
    State.listsInOrder_refuseIf _ (State.listsInOrder_modify h (.of_enrolled hv hstanding hwindow))
  have huv : (u.load n).state ≠ .vacant := by rwa [huload, Load.withFields_state]
  have hmoved : (u.moveHold n (s.load n).holdLine).listsInOrder := by
    obtain ⟨hcase, -⟩ | ⟨hcase, hd, -⟩ := u.moveHold_cases n (s.load n).holdLine
    · rwa [hcase]
    · rw [hcase]
      exact State.listsInOrder_endHoldWait hfields hd
  have hclass := State.listsInOrder_commitClass hmoved (State.moveHold_enrolled huv _) mask w
    (s.classRefused n (clampClass w.cls))
  refine State.listsInOrder_modify ?_ (Load.quiet_keepLine _ _)
  have hrequest : ∀ v : State, v.listsInOrder → (v.commitRequest n mask w).listsInOrder := fun v hv => by
    unfold State.commitRequest
    split
    · exact State.listsInOrder_setRequest hv n _
    · exact hv
  unfold State.followEntered
  split
  · exact State.listsInOrder_setRequest (hrequest _ hclass) n _
  · exact hrequest _ hclass

theorem State.listsInOrder_retire (h : s.listsInOrder) (n : Channel) : (s.retire n).listsInOrder := by
  obtain ⟨hr, hp⟩ := State.listsInOrder_iff.mp h
  have hload : (s.retire n).load n = {} := State.load_modify_self _ n _
  refine State.listsInOrder_iff.mpr ⟨State.recordsLaw_of_others (s.retire_others n) (fun m _ => hr m) ?_,
    hp.dropped (s.retire_others n) rfl ?_ ?_ (.inr ?_) ?_⟩
  all_goals rw [hload]
  · exact Load.lawful_default
  · rfl
  · nofun

theorem State.listsInOrder_commitVacant (h : s.listsInOrder) (hv : (s.load n).state = .vacant) (mask : Option Wide)
    (w : LoadWords) : (s.commitVacant n mask w).listsInOrder := by
  obtain ⟨hr, hp⟩ := State.listsInOrder_iff.mp h
  have hdefault : s.load n = {} := by
    obtain ⟨-, -, -, -, -, -, -, hvacant⟩ := hr n
    exact hvacant hv
  unfold State.commitVacant
  split
  · refine State.listsInOrder_refuseIf _ (State.listsInOrder_iff.mpr
      ⟨State.recordsLaw_of_others (s.modify_others n _) (fun m _ => hr m) ?_,
        hp.modify_off ?_ ?_ rfl nofun (.inl rfl) rfl⟩)
    · rw [s.load_modify_self, hdefault]
      exact Load.lawful_off (.inl rfl) rfl rfl rfl rfl rfl ⟨rfl, rfl⟩ rfl rfl
    · rw [hdefault]
      rfl
    · rw [hv]
      nofun
  · exact State.listsInOrder_refuseIf _ h

theorem State.listsInOrder_commitLoad (h : s.listsInOrder) (n : Channel) (mask : Option Wide) (w : LoadWords) :
    (s.commitLoad n mask w).listsInOrder := by
  refine State.listsInOrder_sweepWindows ?_
  split
  case isTrue he =>
    unfold State.commitHeld
    split
    · exact State.listsInOrder_refuseIf _ (State.listsInOrder_retire h n)
    · exact State.listsInOrder_commitEnrolled h (by simpa [Load.enrolled] using he) mask w
  case isFalse he => exact State.listsInOrder_commitVacant h (by simpa [Load.enrolled] using he) mask w

/-! ## Evaluations (R107 to R123) -/

/-- A walk candidate is on and of class 1 to 7 (R97, R115). -/
theorem Load.walkable_iff {r : Load} :
    r.walkable = true ↔ (r.state = .starting ∨ r.state = .running) ∧ r.cls ≠ 0 := by
  simp [Load.walkable]

theorem Load.walkable_on {r : Load} (h : r.walkable = true) : r.on = true := by
  obtain ⟨hs | hs, -⟩ := Load.walkable_iff.mp h <;> simp [Load.on, hs]

/-- A candidate carries no cause. -/
theorem Load.lawful.walkable_reason {r : Load} (h : r.lawful) (hw : r.walkable = true) (cause : DeferCause) :
    r.reason ≠ .deferred cause := by
  obtain ⟨-, -, ⟨-, hdeferred⟩, -⟩ := h
  intro hr
  have := hdeferred.mpr ⟨cause, by cases cause <;> simp, hr⟩
  simp [Load.walkable, this] at hw

/-- A candidate that cannot be cut now has a wait (R113, R114). -/
theorem State.wait_of_not_cutPossible {r : Load} (h : ¬s.cutPossible r = true) :
    (s.held r.holdLine || (decide (r.dwell < r.minOn) && s.engine.allowance != 0)) = true := by
  simp only [State.cutPossible, Bool.and_eq_true, Bool.or_eq_true, Bool.not_eq_true', decide_eq_true_eq, beq_iff_eq,
    not_and_or, not_or, Bool.not_eq_false, bne_iff_ne] at h ⊢
  obtain h | ⟨hd, ha⟩ := h
  · exact .inl h
  · exact .inr ⟨by omega, ha⟩

theorem State.listsInOrder_deferBudget (h : s.listsInOrder) (hw : (s.load n).walkable = true)
    (hc : ¬s.cutPossible (s.load n) = true) : (s.deferBudget n).listsInOrder := by
  obtain ⟨hr, hp⟩ := State.listsInOrder_iff.mp h
  have hon := Load.walkable_on hw
  have hns : (s.load n).state ≠ .standby := fun hs => by simp [Load.on, hs] at hon
  obtain ⟨⟨-, hcause⟩, -⟩ := (hr n).on_law hon
  refine State.listsInOrder_iff.mpr ⟨State.recordsLaw_of_others (s.modify_others n _) (fun m _ => hr m) ?_,
    hp.modify ⟨hon.symm, by simp [Load.deferWith, hns], fun h => absurd h hns, .inl rfl, rfl⟩⟩
  rw [State.deferBudget, s.load_modify_self]
  refine Load.lawful_deferWith (hr n) hon (State.wait_of_not_cutPossible hc) ?_ fun _ => (Load.walkable_iff.mp hw).2
  exact iff_of_true (hcause ((hr n).walkable_reason hw _)).1 rfl

theorem Walk.listsInOrder_candidate {w : Walk} (h : w.part.listsInOrder) (n : Channel) :
    (w.candidate n).part.listsInOrder := by
  obtain ⟨hr, hp⟩ := State.listsInOrder_iff.mp h
  unfold Walk.candidate
  split
  case isTrue ht =>
    obtain ⟨-, hw⟩ := Bool.and_eq_true_iff.mp ht
    split
    case isTrue =>
      obtain ⟨hc, -⟩ := (hr n).on_law (Load.walkable_on hw)
      exact State.listsInOrder_budgetCut hp (fun m _ => hr m) (Load.walkable_on hw) hc ((hr n).walkable_reason hw _)
    case isFalse hc => exact State.listsInOrder_deferBudget h hw hc
  case isFalse => exact h

theorem Walk.listsInOrder_depletedRecord {w : Walk} (h : w.part.listsInOrder) (n : Channel) :
    (w.depletedRecord n).part.listsInOrder := by
  obtain ⟨hr, hp⟩ := State.listsInOrder_iff.mp h
  simp only [Walk.depletedRecord]
  split
  case isTrue ht =>
    obtain ⟨hs, hb⟩ : (w.part.load n).state = .deferred ∧ (w.part.load n).reason = .deferred .budget := by simpa using ht
    have hended : ((w.part.modify n fun r => { r with waitMinOn := false }).cutIfNoWait n).listsInOrder :=
      State.listsInOrder_endWait h hs rfl rfl
    have hload := w.part.load_modify_self n fun r => { r with waitMinOn := false }
    simp only [State.cutIfNoWait, hload, hs] at hended
    split
    case isTrue hw => simpa [hw] using hended
    case isFalse hw =>
      have hcut : State.deferredCut n (w.part.modify n fun r => { r with waitMinOn := false })
          = State.budgetCut n (w.part.modify n fun r => { r with waitMinOn := false }) := by
        rw [State.deferredCut, hload, hb]
      simpa [hw, hcut, Walk.makeCut] using hended
  case isFalse => exact h

theorem Walk.listsInOrder_foldl {f : Walk → Channel → Walk}
    (hf : ∀ w n, w.part.listsInOrder → (f w n).part.listsInOrder) (l : List Channel) {w : Walk}
    (h : w.part.listsInOrder) : (l.foldl f w).part.listsInOrder := by
  induction l generalizing w with
  | nil => exact h
  | cons n l ih => exact ih (hf w n h)

theorem Walk.listsInOrder_deficitWalk {w : Walk} (h : w.part.listsInOrder) : w.deficitWalk.part.listsInOrder := by
  unfold Walk.deficitWalk
  split
  · exact Walk.listsInOrder_foldl (fun _ n hw => Walk.listsInOrder_candidate hw n) _ h
  · exact h

theorem Walk.listsInOrder_depletedStage {w : Walk} (h : w.part.listsInOrder) : w.depletedStage.part.listsInOrder := by
  unfold Walk.depletedStage
  split
  · exact Walk.listsInOrder_foldl (fun _ n hw => Walk.listsInOrder_depletedRecord hw n) _ h
  · exact h

theorem Walk.listsInOrder_restore {w : Walk} (h : w.part.listsInOrder) : w.restore.listsInOrder := by
  unfold Walk.restore
  split
  · split
    · exact State.listsInOrder_start h _
    · exact h
  · exact h

theorem State.listsInOrder_refreshReasons (h : s.listsInOrder) (candidate : Option Channel) (fits : Bool) :
    (s.refreshReasons candidate fits).listsInOrder := by
  obtain ⟨hr, hp⟩ := State.listsInOrder_iff.mp h
  refine State.listsInOrder_iff.mpr ⟨fun m => ?_, hp.mapLoads fun m => ?_⟩
  · rw [State.refreshReasons, s.load_mapLoads]
    split
    case isTrue hs =>
      obtain ⟨hq, ha, hb, hwh, hwm, hwin, ht, -⟩ := (hr m).standby hs
      exact Load.lawful_standby hs hq ha hb ⟨_, rfl⟩ ⟨hwh, hwm⟩ hwin ht
    case isFalse => exact hr m
  · split
    · exact .of_state rfl (fun _ => rfl) rfl rfl
    · exact .refl _

theorem State.listsInOrder_evaluate (h : s.listsInOrder) : s.evaluate.listsInOrder := by
  have hform : s.formAllowance.listsInOrder := State.listsInOrder_of_loads h rfl rfl
  have hwalked := Walk.listsInOrder_restore (Walk.listsInOrder_depletedStage (Walk.listsInOrder_deficitWalk
    (w := ⟨s.formAllowance, s.formAllowance.sense.pub.filtered, false⟩) hform))
  have hbefore : s.beforeLevel.listsInOrder := State.listsInOrder_refreshReasons hwalked _ _
  rw [s.evaluate_eq]
  generalize s.beforeLevel = u at hbefore ⊢
  refine State.listsInOrder_sweepWindows (State.listsInOrder_of_loads hbefore ?_ ?_)
  · simp [State.close, Engine.places]
  · simp only [State.close, State.setLevel_loads]

/-! ## Start-up (R104, R193, R195) -/

/-- Stage 1 leaves a lawful record off and asked for nothing (R193). -/
theorem Load.lawful_stage1 {r : Load} (h : r.lawful) :
    r.stage1.lawful ∧ r.stage1.on = false ∧ r.stage1.state ≠ .standby ∧ r.stage1.requestStamp = none
      ∧ r.stage1.startStamp = none := by
  unfold Load.stage1
  split
  case isTrue =>
    exact ⟨Load.lawful_off (.inl rfl) rfl rfl rfl rfl rfl ⟨rfl, rfl⟩ rfl rfl, rfl, nofun, rfl, rfl⟩
  case isFalse he =>
    have hv : r.state = .vacant := by simpa [Load.enrolled] using he
    obtain ⟨-, -, -, -, -, -, -, hvacant⟩ := id h
    have hdefault := hvacant hv
    exact ⟨h, by simp [Load.on, hv], by rw [hv]; nofun, by rw [hdefault], by rw [hdefault]⟩

/-- Empty lists over records that are in neither. -/
theorem State.placed_of_empty (hc : t.counterLaw) (hrun : t.engine.runList = []) (hstandby : t.engine.standbyList = [])
    (h : ∀ m, (t.load m).on = false ∧ (t.load m).state ≠ .standby ∧ (t.load m).requestStamp = none
      ∧ (t.load m).startStamp = none) : t.Placed := by
  have hon : ∀ m, (t.load m).on = false := fun m => (h m).1
  have hs : ∀ m, (t.load m).state ≠ .standby := fun m => (h m).2.1
  have hq : ∀ m, (t.load m).requestStamp = none := fun m => (h m).2.2.1
  have hb : ∀ m, (t.load m).startStamp = none := fun m => (h m).2.2.2
  refine ⟨⟨fun m => ?_, fun m => ?_, ?_, ?_⟩, hc, ⟨fun m k hk => ?_, fun m k hk => ?_, fun j _ _ _ => hq j, fun j _ _ _ => hb j⟩,
    ⟨?_, ?_⟩, fun m hm => absurd hm (hs m), fun m hm => ?_⟩
  · simp [hrun, hon m]
  · simp [hstandby, hs m]
  · simp [hrun]
  · simp [hstandby]
  · rw [hq m] at hk
    cases hk
  · rw [hb m] at hk
    cases hk
  · simp [hstandby]
  · simp [hrun]
  · rw [hon m] at hm
    cases hm

theorem State.listsInOrder_beginRestart (h : s.listsInOrder) : s.beginRestart.listsInOrder := by
  obtain ⟨hr, hp⟩ := State.listsInOrder_iff.mp h
  refine State.listsInOrder_iff.mpr ⟨fun m => ?_, State.placed_of_empty hp.counter rfl rfl fun m => ?_⟩
  · rw [s.load_beginRestart]
    exact (Load.lawful_stage1 (hr m)).1
  · rw [s.load_beginRestart]
    exact (Load.lawful_stage1 (hr m)).2

theorem State.listsInOrder_completeSave (h : s.listsInOrder) (image found : StoreWords) :
    (s.completeSave image found).listsInOrder := by
  have hsame : ∀ b : Bool, (if b then State.raise .storeFault { s with
      store := { s.store with image := found, saving := none } } else { s with
      store := { s.store with image := found, saving := none } }).listsInOrder := fun b => by
    cases b <;> exact State.listsInOrder_of_loads h rfl rfl
  simp only [State.completeSave]
  split
  · refine State.listsInOrder_beginRestart ?_
    split <;> exact State.listsInOrder_of_loads h rfl rfl
  · exact hsame _

/-- A record that stage 3 has rebuilt and whose entry is not yet made: IDLE or VACANT, lawful but for its request (R25). -/
structure Load.Fresh (r : Load) : Prop where
  off : r.on = false
  outside : r.state ≠ .standby
  asked : r.requestStamp = none
  begun : r.startStamp = none
  waits : r.waitHold = false ∧ r.waitMinOn = false
  window : r.window = .closed
  lawful : r.request = false → r.lawful

theorem Load.fresh_rebuilt (w : ChannelWords) (pressed : Bool) : (Load.rebuilt w pressed).Fresh := by
  unfold Load.rebuilt
  split
  case isTrue =>
    exact ⟨rfl, nofun, rfl, rfl, ⟨rfl, rfl⟩, rfl, fun hq => Load.lawful_off (.inl rfl) hq rfl rfl rfl rfl ⟨rfl, rfl⟩ rfl rfl⟩
  case isFalse => exact ⟨rfl, nofun, rfl, rfl, ⟨rfl, rfl⟩, rfl, fun _ => Load.lawful_default⟩

/-- The part in the list rebuild, with the entries of these channels still to be made: as many stamps are left. -/
structure State.Rebuilding (todo : List Channel) (s : State) : Prop where
  placed : s.Placed
  unspent : s.engine.exhausted = false
  room : s.engine.seq + todo.length < 100
  fresh : ∀ m ∈ todo, (s.load m).Fresh
  lawful : ∀ m, m ∉ todo → (s.load m).lawful

theorem State.Rebuilding.entry {todo : List Channel} (h : s.Rebuilding (n :: todo)) (hn : n ∉ todo) :
    (s.rebuildEntry n).Rebuilding todo := by
  have hfresh := h.fresh n List.mem_cons_self
  have hroom : s.engine.seq + (todo.length + 1) < 100 := h.room
  by_cases hq : (s.load n).request = true
  · let v := (s.modify n fun r => { r with requestStamp := some s.engine.seq }).stampIssued
    have hentry : s.rebuildEntry n = v.enterStandby n := if_pos hq
    have hload : v.load n = { s.load n with requestStamp := some s.engine.seq } := by
      rw [State.load_stampIssued, s.load_modify_self]
    have hvothers : v.others n = s.others n := by simp [v]
    have hengine : v.engine = s.engine.stamped := by
      rw [State.stampIssued_engine]
      rfl
    have hstamped : s.engine.stamped = { s.engine with seq := s.engine.seq + 1 } := by
      rw [Engine.stamped, if_pos (by omega)]
    have hplaced : v.Placed := h.placed.newRequestStamp h.unspent hvothers hengine hfresh.outside (by rw [hload])
      (by rw [hload]) (by rw [hload])
    have hentered : (v.enterStandby n).Placed := by
      refine hplaced.enterStandby ?_ ?_ ?_ ?_
      all_goals rw [hload]
      · exact hfresh.off
      · exact hfresh.outside
      · rfl
      · exact hfresh.begun
    have hothers : ∀ m, m ≠ n → (v.enterStandby n).load m = s.load m := fun m hm =>
      State.load_of_others ((v.enterStandby_others n).trans hvothers) hm
    rw [hentry]
    refine ⟨hentered, ?_, ?_, fun m hm => ?_, fun m hm => ?_⟩
    · show v.engine.exhausted = false
      rw [hengine, hstamped]
      exact h.unspent
    · show v.engine.seq + todo.length < 100
      rw [hengine, hstamped]
      show s.engine.seq + 1 + todo.length < 100
      omega
    · rw [hothers m fun he => hn (he ▸ hm)]
      exact h.fresh m (List.mem_cons_of_mem _ hm)
    · by_cases hmn : m = n
      · rw [hmn, v.load_enterStandby, if_pos rfl, hload]
        exact Load.lawful_standby rfl hq rfl hfresh.begun ⟨_, rfl⟩ hfresh.waits hfresh.window rfl
      · rw [hothers m hmn]
        exact h.lawful m (by simp [hmn, hm])
  · have hentry : s.rebuildEntry n = s := if_neg hq
    rw [hentry]
    refine ⟨h.placed, h.unspent, by omega, fun m hm => h.fresh m (List.mem_cons_of_mem _ hm), fun m hm => ?_⟩
    by_cases hmn : m = n
    · rw [hmn]
      exact hfresh.lawful (by simpa using hq)
    · exact h.lawful m (by simp [hmn, hm])

theorem State.Rebuilding.entries {todo : List Channel} (hd : todo.Nodup) (h : s.Rebuilding todo) :
    (todo.foldl (fun (t : State) n => t.rebuildEntry n) s).Rebuilding [] := by
  induction todo generalizing s with
  | nil => exact h
  | cons n todo ih =>
    obtain ⟨hn, hd⟩ := List.nodup_cons.mp hd
    exact ih hd (h.entry hn)

theorem State.rebuilding_tableRebuilt (s : State) (kept : Vector ChannelWords 12) :
    (s.tableRebuilt kept).Rebuilding channels := by
  have hfresh : ∀ m, ((s.tableRebuilt kept).load m).Fresh := fun m => by
    rw [s.load_tableRebuilt]
    exact Load.fresh_rebuilt _ _
  refine ⟨State.placed_of_empty ⟨Nat.zero_le _, nofun⟩ rfl rfl fun m => ?_, rfl, ?_, fun m _ => hfresh m,
    fun m hm => absurd (mem_channels m) hm⟩
  · exact ⟨(hfresh m).off, (hfresh m).outside, (hfresh m).asked, (hfresh m).begun⟩
  · show 0 + 12 < 100
    decide

theorem State.rebuilding_entriesRebuilt (s : State) (kept : Vector ChannelWords 12) :
    (s.entriesRebuilt kept).Rebuilding [] := (s.rebuilding_tableRebuilt kept).entries channels_nodup

theorem State.listsInOrder_entriesRebuilt (s : State) (kept : Vector ChannelWords 12) :
    (s.entriesRebuilt kept).listsInOrder :=
  State.listsInOrder_iff.mpr ⟨fun m => (s.rebuilding_entriesRebuilt kept).lawful m nofun,
    (s.rebuilding_entriesRebuilt kept).placed⟩

theorem State.listsInOrder_stage3 (s : State) (kept : Vector ChannelWords 12) : (s.stage3 kept).listsInOrder := by
  have hswept := State.listsInOrder_essentialSweep (s.listsInOrder_entriesRebuilt kept)
  rw [s.stage3_eq]
  refine State.listsInOrder_sweepWindows ?_
  generalize (s.entriesRebuilt kept).essentialSweep = u at hswept ⊢
  exact State.listsInOrder_of_loads hswept rfl rfl

/-! ## Steps -/

/-- A part with the records, the lists and the counter of one in order. -/
theorem State.inOrder_of_same (h : s.listsInOrder) (hl : t.loads = s.loads) (he : t.engine = s.engine) : t.listsInOrder :=
  State.listsInOrder_of_loads h (by rw [he]) hl

theorem State.inOrder_of_commit {space : Space} {index : Nat} {effect : Option Wide → State → State} (hs : s.listsInOrder)
    (h : whenAnswering s (s.maskedCommit space index effect) = .next t)
    (he : ∀ mask u, u.listsInOrder → (effect mask u).listsInOrder) : t.listsInOrder := by
  let v : State := { s with port := s.port.reach space index }
  have hv : (effect s.port.mask v).listsInOrder := he _ v (State.inOrder_of_same hs rfl rfl)
  exact of_whenAnswering h hs fun _ _ => State.inOrder_of_same (s := effect s.port.mask v) hv rfl rfl

theorem State.inOrder_of_command {i : Nat} {channel : Byte} {effect : State → State × CommandResult}
    (hs : s.listsInOrder) (h : whenAnswering s (s.command i channel effect) = .next t)
    (he : ∀ u, u.listsInOrder → (effect u).1.listsInOrder) : t.listsInOrder := by
  let v : State := { s with port := s.port.reach .command i }
  have hv : (effect v).1.listsInOrder := he v (State.inOrder_of_same hs rfl rfl)
  exact of_whenAnswering h hs fun _ _ => State.inOrder_of_same (s := (effect v).1) hv rfl rfl

theorem Load.quiet_dwellTick (r : Load) : r.Quiet r.dwellTick := by
  unfold Load.dwellTick
  split
  case isTrue he => exact .of_enrolled (by simpa [Load.enrolled] using he) rfl rfl
  case isFalse => exact .refl _

theorem Load.quiet_diagTick (faulty : Bool) (r : Load) : r.Quiet (r.diagTick faulty) := by
  unfold Load.diagTick
  split
  case isTrue hon =>
    have hv : r.state ≠ .vacant := fun hv => by simp [Load.on, hv] at hon
    split <;> exact .of_enrolled hv rfl rfl
  case isFalse => exact .refl _

theorem Load.quiet_cleanRunTick (r : Load) : r.Quiet r.cleanRunTick := by
  unfold Load.cleanRunTick
  split
  case isTrue hs => exact .of_enrolled (by rw [hs]; nofun) rfl rfl
  case isFalse => exact .refl _

theorem Load.quiet_closeWindow (p : Published) (r : Load) : r.Quiet (r.closeWindow p) := by
  unfold Load.closeWindow
  split
  case h_1 o hw =>
    refine ⟨rfl, .inr rfl, fun hd => ?_⟩
    rw [hd] at hw
    cases hw
  case h_2 => exact .refl _

theorem Window.seePulse_cases (d : Direction) (w : Window) : w.seePulse d = w ∨ w.seePulse d = .closed := by
  unfold Window.seePulse
  split
  · exact .inl rfl
  · split
    · exact .inl rfl
    · exact .inr rfl

/-- A settle end keeps the place and the laws (R99, R160). -/
theorem State.listsInOrder_settleTick (h : s.listsInOrder) (n : Channel) : (s.modify n Load.settleTick).listsInOrder := by
  obtain ⟨hr, hp⟩ := State.listsInOrder_iff.mp h
  by_cases hs : (s.load n).state = .starting
  case neg =>
    refine State.listsInOrder_modify h ?_
    rw [Load.settleTick, if_neg hs]
    exact .refl _
  by_cases hend : (s.load n).settleTimer ≤ 1
  case neg =>
    refine State.listsInOrder_modify h ?_
    rw [Load.settleTick, if_pos hs, if_neg hend]
    exact .of_enrolled (by rw [hs]; nofun) rfl rfl
  have hself : (s.load n).settleTick = { s.load n with
      state := .running, settleTimer := 0, cleanRun := 0, window := (s.load n).window.settleEnded } := by
    rw [Load.settleTick, if_pos hs, if_pos hend]
  have hns : (s.load n).state ≠ .standby := by rw [hs]; nofun
  have hon : (s.load n).on = true := by simp [Load.on, hs]
  obtain ⟨⟨-, hcause⟩, ha, hb, hd, ht⟩ := (hr n).on_law hon
  obtain ⟨-, -, ⟨hst, hdf⟩, ⟨hwaits, -⟩, hwindow, -⟩ := hr n
  have hwait : ((s.load n).waitHold || (s.load n).waitMinOn) = false := by rw [hwaits, hs]; rfl
  have hy : (s.load n).reason = .none := by
    cases hy : (s.load n).reason with
    | none => rfl
    | standby why => exact absurd (hst.mpr ⟨why, by cases why <;> simp, hy⟩) hns
    | deferred cause =>
      have := hdf.mpr ⟨cause, by cases cause <;> simp, hy⟩
      rw [hs] at this
      cases this
  obtain ⟨hq, -⟩ := hcause (by rw [hy]; nofun)
  have hwin : (s.load n).window.settleEnded.fits .running = true := by
    cases hw : (s.load n).window with
    | closed => rfl
    | settling o => rfl
    | closing o =>
      rw [Load.windowLaw, hw, hs] at hwindow
      simp [Window.fits] at hwindow
  refine State.listsInOrder_iff.mpr ⟨State.recordsLaw_of_others (s.modify_others n _) (fun m _ => hr m) ?_,
    hp.modify ?_⟩
  · rw [s.load_modify_self, hself]
    have hwait : (s.load n).waitHold = false ∧ (s.load n).waitMinOn = false := by simpa using hwait
    simp [Load.lawful, Load.requestLaw, Load.stampsLaw, Load.reasonLaw, Load.marksLaw, Load.windowLaw,
      Load.essentialLaw, Load.retryLaw, Load.vacantLaw, Load.on, hq, ha, hb, hd, ht, hy, hwait, hwin]
  · rw [hself]
    exact ⟨hon.symm, by simp [hs], fun h => absurd h hns, .inl rfl, rfl⟩

theorem State.listsInOrder_holdLimitTick (h : s.listsInOrder) (n : Channel) : (s.holdLimitTick n).listsInOrder := by
  simp only [State.holdLimitTick]
  split
  case isTrue hw =>
    have hs : (s.load n).state = .deferred := by
      obtain ⟨hr, -⟩ := State.listsInOrder_iff.mp h
      obtain ⟨-, -, -, ⟨hwaits, -⟩, -⟩ := hr n
      rw [hw] at hwaits
      simpa using hwaits.symm
    split
    case isTrue =>
      exact State.listsInOrder_sweepWindows
        (State.listsInOrder_endHoldWait (s := s.raise .holdExpired) (State.listsInOrder_raise _ h) hs)
    case isFalse => exact State.listsInOrder_modify h (.of_enrolled (by rw [hs]; nofun) rfl rfl)
  case isFalse => exact h

theorem State.listsInOrder_minOnCheck (h : s.listsInOrder) (n : Channel) : (s.minOnCheck n).listsInOrder := by
  simp only [State.minOnCheck]
  split
  case isTrue hw =>
    have hs : (s.load n).state = .deferred := by
      obtain ⟨hw, -⟩ := Bool.and_eq_true_iff.mp hw
      obtain ⟨hr, -⟩ := State.listsInOrder_iff.mp h
      obtain ⟨-, -, -, ⟨hwaits, -⟩, -⟩ := hr n
      rw [hw, Bool.or_true] at hwaits
      simpa using hwaits.symm
    exact State.listsInOrder_sweepWindows (State.listsInOrder_endMinOnWait h hs)
  case isFalse => exact h

theorem State.listsInOrder_retryTick (h : s.listsInOrder) (n : Channel) : (s.retryTick n).listsInOrder := by
  obtain ⟨hr, hp⟩ := State.listsInOrder_iff.mp h
  simp only [State.retryTick]
  split
  case h_1 k hs hk =>
    split
    case isTrue =>
      exact State.listsInOrder_sweepWindows
        (State.listsInOrder_retryExpires hp (fun m _ => hr m) hs ⟨(s.load n).retryTimer, hr n⟩)
    case isFalse =>
      refine State.listsInOrder_iff.mpr ⟨State.recordsLaw_of_others (s.modify_others n _) (fun m _ => hr m) ?_,
        hp.modify (.of_state rfl (fun _ => rfl) rfl rfl)⟩
      rw [s.load_modify_self]
      obtain ⟨hrequest, hstamps, hreason, hmarks, hwindow, hessential, -, -⟩ := hr n
      exact ⟨hrequest, hstamps, hreason, hmarks, hwindow, hessential, by rw [Load.retryLaw, hs]; rfl,
        fun hv => by rw [hs] at hv; cases hv⟩
  case h_2 => exact h

theorem State.listsInOrder_clearFault (h : s.listsInOrder) (n : Channel) : (s.clearFault n).1.listsInOrder := by
  obtain ⟨hr, hp⟩ := State.listsInOrder_iff.mp h
  unfold State.clearFault
  split
  case h_1 hs =>
    have hon : (s.load n).on = false := by simp [Load.on, hs]
    have hns : (s.load n).state ≠ .standby := by rw [hs]; nofun
    obtain ⟨hb, -, -, hwh, hwm, hwin⟩ := (hr n).off hon hns
    obtain ⟨⟨hreq, -⟩, -⟩ := hr n
    refine State.listsInOrder_iff (s := s.modify n fun r => { r.toIdle with retriesUsed := 0 }).mpr
      ⟨State.recordsLaw_of_others (s.modify_others n _) (fun m _ => hr m) ?_,
        hp.modify_off hon hns rfl (by intro h; cases h) (.inr rfl) rfl⟩
    rw [s.load_modify_self]
    exact Load.lawful_off (.inl rfl) (hreq (by simp [hs])) rfl hb rfl rfl ⟨hwh, hwm⟩ hwin rfl
  case h_2 hs =>
    have hload := s.load_modify_self n fun r => { r with retriesUsed := 0, retryTimer := none }
    have hon : (s.load n).on = false := by simp [Load.on, hs]
    have hns : (s.load n).state ≠ .standby := by rw [hs]; nofun
    refine State.listsInOrder_sweepWindows (State.listsInOrder_retryExpires
      (hp.modify (.of_state rfl (fun _ => rfl) rfl rfl)) (fun m hm => ?_) ?_ ⟨(s.load n).retryTimer, ?_⟩)
    · rw [s.load_modify_of_ne _ hm]
      exact hr m
    · rw [hload]
      exact hs
    · rw [hload]
      obtain ⟨hrequest, hstamps, hreason, hmarks, hwindow, hessential, hretry, -⟩ := hr n
      exact ⟨hrequest, hstamps, hreason, hmarks, hwindow, hessential, hretry, fun hv => by
        rw [show (s.load n).state = .vacant from hv] at hs; cases hs⟩
  all_goals exact h

theorem State.listsInOrder_forgetDraw (h : s.listsInOrder) (n : Channel) : (s.forgetDraw n).1.listsInOrder := by
  unfold State.forgetDraw
  split
  case isTrue he => exact State.listsInOrder_modify h (.of_enrolled (by simpa [Load.enrolled] using he) rfl rfl)
  case isFalse => exact h

theorem State.listsInOrder_forceOffAsserted (h : s.listsInOrder) : s.forceOffAsserted.listsInOrder := by
  unfold State.forceOffAsserted
  refine State.listsInOrder_raise _ (State.listsInOrder_mapLoads (State.listsInOrder_foldl
    (fun t n ht => State.listsInOrder_forceOffRecord ht n) _ (s := { s with forceOff := ⟨true, 0⟩ }) ?_) fun m => ?_)
  · exact State.inOrder_of_same h rfl rfl
  · exact Load.quiet_window (.inr rfl)

/-- The commands of the port keep the lists, the stamps and the records in order. -/
theorem listsInOrder_overPort {c : Instr} (hs : s.listsInOrder) (h : exec c s = .next t) (hc : OverPort c) :
    t.listsInOrder := by
  cases c <;> try exact hc.elim
  case pointerSet =>
    refine of_whenAnswering h hs fun _ _ => ?_
    split
    · exact of_ite hs fun _ => State.inOrder_of_same hs rfl rfl
    · exact hs
  case readTransaction =>
    refine of_whenAnswering h hs fun _ _ => of_ite hs fun _ => ?_
    rw [State.readBytes_eq]
    exact State.inOrder_of_same hs rfl rfl
  case statusSnapshot =>
    refine of_whenAnswering h hs fun _ _ => ?_
    rw [State.readByte_eq]
    exact State.inOrder_of_same hs rfl rfl
  case partialWrite =>
    exact of_whenAnswering h hs fun _ _ => of_ite hs fun _ => State.inOrder_of_same hs rfl rfl
  case listsWrite | statusCommit | setChangeMask =>
    exact of_whenAnswering h hs fun _ _ => State.inOrder_of_same hs rfl rfl
  case loadCommit n d =>
    exact State.inOrder_of_commit hs h fun mask u hu => State.listsInOrder_commitLoad hu n mask _
  case meterProfileCommit =>
    refine State.inOrder_of_commit hs h fun mask u hu => State.inOrder_of_same hu ?_ (u.commitMeter_engine mask _)
    simp only [State.commitMeter]
    split
    · rfl
    · exact u.refuseIf_loads _
  case budgetProfileCommit =>
    refine State.inOrder_of_commit hs h fun mask u hu => State.listsInOrder_of_loads hu ?_ (State.commitBudget_loads ..)
    simp only [State.commitBudget]
    split
    · rfl
    · rw [u.refuseIf_engine]
  case restTableCommit =>
    refine State.inOrder_of_commit hs h fun mask u hu => State.inOrder_of_same hu ?_ (u.commitRest_engine mask _)
    simp only [State.commitRest]
    split
    · split <;> rfl
    · exact u.refuseIf_loads _
  case setReserve | clearAnchor =>
    exact State.inOrder_of_command hs h fun u hu => State.inOrder_of_same hu rfl rfl
  case saveProfile =>
    refine State.inOrder_of_command hs h fun u hu => ?_
    unfold State.saveProfile
    split
    · exact State.inOrder_of_same hu rfl rfl
    · exact hu
  case restart =>
    refine of_whenAnswering h hs fun _ _ => ?_
    split
    · exact State.listsInOrder_beginRestart hs
    · exact State.inOrder_of_same hs rfl rfl
  case clearFault =>
    refine State.inOrder_of_command hs h fun u hu => ?_
    split
    · exact State.listsInOrder_clearFault hu _
    · exact hu
  case forgetDraw =>
    refine State.inOrder_of_command hs h fun u hu => ?_
    split
    · exact State.listsInOrder_forgetDraw hu _
    · exact hu

/-- So does every other command. -/
theorem listsInOrder_off_port {c : Instr} (hs : s.listsInOrder) (h : exec c s = .next t) (hc : ¬OverPort c) :
    t.listsInOrder := by
  have htaken : ∀ w, (s.workTaken w).listsInOrder := fun w => State.inOrder_of_same hs rfl rfl
  cases c <;> try exact absurd trivial hc
  case powerOn a b =>
    exact Host.Outcome.next.inj h ▸ State.poweredOn_listsInOrder ..
  case lossOfPower cut =>
    refine of_whenPowered h hs fun _ => ?_
    exact State.poweredOn_listsInOrder s.port.address (storeAfterLoss s.store.saving s.store.image cut) s.pending
  case startupStage2 =>
    refine of_whenPowered h hs fun _ => of_ite hs fun _ => State.listsInOrder_of_loads hs ?_ ?_
    · simp only [State.stage2]
      split <;> rfl
    · simp only [State.stage2]
      split <;> rfl
  case startupStage3 =>
    refine of_whenPowered h hs fun _ => ?_
    split
    next kept hk => exact of_ite hs fun _ => s.listsInOrder_stage3 kept
    next => exact hs
  case captureTick => exact of_whenPowered h hs fun _ => State.inOrder_of_same hs rfl rfl
  case quietExpiry | fullSync | setupLevelChange | holdAssertion =>
    exact of_whenPowered h hs fun _ => of_ite hs fun _ => State.inOrder_of_same hs rfl rfl
  case restReAnchor =>
    refine of_whenPowered h hs fun _ => of_ite hs fun _ => ?_
    simp only [State.restReAnchor]
    split <;> exact State.inOrder_of_same hs rfl rfl
  case pulse d =>
    refine of_whenPowered h hs fun _ => of_ite hs fun _ => State.listsInOrder_of_quiet hs rfl fun m => ?_
    rw [State.takePulse, State.load_mapLoads]
    exact Load.quiet_window (Window.seePulse_cases _ _)
  case sampleTick code =>
    refine of_whenPowered h hs fun _ => of_takeWork hs fun _ => State.listsInOrder_of_quiet (htaken .sample) rfl fun m => ?_
    rw [State.sampleTick, State.load_mapLoads]
    exact Load.quiet_closeWindow _ _
  case evaluation =>
    exact of_whenPowered h hs fun _ => of_takeWork hs fun _ => of_ite (htaken _) fun _ =>
      State.listsInOrder_evaluate (htaken _)
  case dwellIncrement =>
    exact of_whenPowered h hs fun _ => of_takeWork hs fun _ =>
      State.listsInOrder_mapLoads (htaken _) fun m => Load.quiet_dwellTick _
  case settleEnd n =>
    exact of_whenPowered h hs fun _ => of_takeWork hs fun _ => State.listsInOrder_settleTick (htaken _) n
  case cleanRun n =>
    exact of_whenPowered h hs fun _ => of_takeWork hs fun _ =>
      State.listsInOrder_modify (htaken _) (Load.quiet_cleanRunTick _)
  case minOffExpiry =>
    exact of_whenPowered h hs fun _ => of_takeWork hs fun _ => of_ite (htaken _) fun _ =>
      State.listsInOrder_sweepWindows (State.listsInOrder_essentialSweep (htaken _))
  case holdLimitExpiry n =>
    exact of_whenPowered h hs fun _ => of_takeWork hs fun _ => State.listsInOrder_holdLimitTick (htaken _) n
  case minOnReached n =>
    exact of_whenPowered h hs fun _ => of_takeWork hs fun _ => State.listsInOrder_minOnCheck (htaken _) n
  case retryExpiry n =>
    exact of_whenPowered h hs fun _ => of_takeWork hs fun _ => State.listsInOrder_retryTick (htaken _) n
  case stableLevelChange n =>
    exact of_whenPowered h hs fun _ => of_ite hs fun _ => State.listsInOrder_sweepWindows
      (State.listsInOrder_switchEvent (s := s.switchToggled n) (State.inOrder_of_same hs rfl rfl) n _)
  case holdRelease line =>
    exact of_whenPowered h hs fun _ => of_ite hs fun _ => State.listsInOrder_sweepWindows
      (State.listsInOrder_releaseHold (s := s.holdToggled line) (State.inOrder_of_same hs rfl rfl) line)
  case forceOffAssertion =>
    exact of_whenPowered h hs fun _ => of_ite hs fun _ => State.listsInOrder_forceOffAsserted hs
  case forceOffRelease =>
    exact of_whenPowered h hs fun _ => of_ite hs fun _ => State.listsInOrder_sweepWindows
      (State.listsInOrder_essentialSweep (s := { s with forceOff := ⟨false, 0⟩ }) (State.inOrder_of_same hs rfl rfl))
  case trip n =>
    refine of_whenPowered h hs fun _ => of_ite hs fun hon => ?_
    exact State.listsInOrder_sweepWindows (State.listsInOrder_tripRecord hs (Bool.and_eq_true_iff.mp hon).1)
  case lineTick l =>
    refine of_whenPowered h hs fun _ => of_takeWork hs fun _ => State.listsInOrder_of_quiet (htaken .line) rfl fun m => ?_
    rw [State.load_lineTick]
    exact Load.quiet_diagTick _ _
  case saveCompletion found =>
    refine of_whenPowered h hs fun _ => ?_
    split
    · exact State.listsInOrder_completeSave hs _ found
    · exact hs

theorem exec_listsInOrder {c : Instr} (hs : s.listsInOrder) (h : exec c s = .next t) : t.listsInOrder := by
  by_cases hc : OverPort c
  · exact listsInOrder_overPort hs h hc
  · exact listsInOrder_off_port hs h hc

end

/-- Settles O56: every event keeps the records lawful and in their places, and start-up rebuilds the lists in order. -/
theorem listsStampsAndRecordsStayInOrder : Obligations.ListsStampsAndRecordsStayInOrder := fun _ _ hs h =>
  step_keeps (I := State.listsInOrder) (fun _ _ hs => State.inOrder_of_same hs rfl rfl)
    (fun _ _ _ hs h => exec_listsInOrder hs h) hs h

end Sys2Proof.Machine
end

section
/-! PROOFS. The pointer, the line filters and the counters (R2, R7, R45, R75, R106, R129, R145, R169, R173, R193). -/

namespace Sys2Proof.Machine

/-! ## The bytes of a record (R168) -/

section
variable (s : State)

theorem halfBytes_length (h : Half) : (halfBytes h).length = 2 := rfl
theorem wideBytes_length (w : Wide) : (wideBytes w).length = 4 := rfl

theorem Load.bytes_length (r : Load) : r.bytes.length = 28 := rfl

theorem State.statusBytes_length : s.statusBytes.length = 40 := by
  simp [State.statusBytes, halfBytes_length, wideBytes_length]

theorem State.profileBytes_length (i : Nat) : (s.profileBytes i).length = 32 := by
  unfold State.profileBytes
  split
  · rfl
  · rfl
  · simp [pointBytes, halfBytes_length]

theorem listBytes_length {l : List Channel} (h : l.length ≤ 12) : (listBytes l).length = 13 := by
  simp [listBytes]
  omega

/-- A list of channels without repeats holds 12 at most (R95). -/
theorem channels_length_le {l : List Channel} (h : l.Nodup) : l.length ≤ 12 := by
  have := h.length_le_card
  simpa using this

/-- A record's bytes are as many as its space has (R168). -/
theorem State.recordBytes_length (hl : s.listLaw) (space : Space) (i : Nat) : (s.recordBytes space i).length = space.bytes := by
  obtain ⟨-, -, hrun, hstandby⟩ := hl
  cases space with
  | load => exact Load.bytes_length _
  | profile => exact s.profileBytes_length i
  | status => exact s.statusBytes_length
  | command => rfl
  | lists =>
    refine listBytes_length ?_
    split
    · exact channels_length_le hrun
    · exact channels_length_le hstandby

end

/-! ## The pointer and the filters -/

/-- The line filters and the line ticks of start-up lie in their ranges (R7, R75, R129, R145, R193). -/
def State.filtersLaw (s : State) : Prop :=
  (∀ n : Channel, s.switches[n].run ≤ 250) ∧ (∀ h : HoldLine, s.holds[h].run ≤ 10) ∧ s.forceOff.run ≤ 10
    ∧ s.setup.run ≤ 10 ∧ s.startup.ticks ≤ 25

/-- The pointer with its snapshot, and the line filters, lie in their ranges. -/
def State.DialsLaw (s : State) : Prop := s.pointerLaw ∧ s.filtersLaw

/-- Where the pointer stands. -/
def Port.spot (p : Port) : Space × Nat × Nat × Option (List Byte) × List Byte :=
  (p.space, p.index, p.offset, p.snapshot, p.staging)

/-- What the law of the dials reads. -/
def State.dials (s : State) : (Space × Nat × Nat × Option (List Byte) × List Byte)
    × Vector SwitchLine 12 × Vector Filter 4 × Filter × Filter × Nat :=
  (s.port.spot, s.switches, s.holds, s.forceOff, s.setup, s.startup.ticks)

section
variable {s t u : State}

theorem State.DialsLaw.of_dials (h : s.DialsLaw) (ht : t.dials = s.dials) : t.DialsLaw := by
  simp only [State.dials, Port.spot, Prod.mk.injEq] at ht
  obtain ⟨⟨hspace, hindex, hoffset, hsnapshot, hstaging⟩, hswitches, hholds, hforce, hsetup, hticks⟩ := ht
  rwa [State.DialsLaw, State.pointerLaw, State.filtersLaw, hspace, hindex, hoffset, hsnapshot, hstaging, hswitches, hholds,
    hforce, hsetup, hticks]

theorem State.dials_of_apart (h : t.apart = s.apart) : t.dials = s.dials := (congrArg State.dials h :)

theorem State.DialsLaw.of_apart (h : s.DialsLaw) (ht : t.apart = s.apart) : t.DialsLaw := h.of_dials (State.dials_of_apart ht)

/-- A pointer at offset 0 of a record, with no snapshot (R169). -/
theorem State.pointerLaw_of_reset (hi : t.port.index < t.port.space.records) (ho : t.port.offset = 0)
    (hs : t.port.snapshot = none) (hg : t.port.staging = []) : t.pointerLaw := by
  refine ⟨hi, ?_, ?_, ?_, hg⟩
  · rw [ho]
    cases t.port.space <;> decide
  · rw [hs, ho]
    rfl
  · rw [hs]
    nofun

theorem nextIndex_lt {space : Space} (i : Nat) : nextIndex space i < space.records := by
  unfold nextIndex
  split
  case isTrue h => exact h
  case isFalse => cases space <;> decide

theorem State.takeSnapshot_eq (s : State) : s.takeSnapshot = { s with port := s.takeSnapshot.port } := by
  unfold State.takeSnapshot
  split <;> rfl

/-- The snapshot held when a byte is read, whether it was held or is taken (R173). -/
theorem State.takeSnapshot_law (h : s.pointerLaw) (hl : s.listLaw) :
    s.takeSnapshot.port.space = s.port.space ∧ s.takeSnapshot.port.index = s.port.index
      ∧ s.takeSnapshot.port.offset = s.port.offset ∧ s.takeSnapshot.port.staging = s.port.staging
      ∧ s.takeSnapshot.port.snapshot.isSome = true
      ∧ ∀ l ∈ s.takeSnapshot.port.snapshot, l.length = s.port.space.bytes := by
  obtain ⟨-, -, hsome, hlength, -⟩ := h
  unfold State.takeSnapshot
  split
  case isTrue => exact ⟨rfl, rfl, rfl, rfl, rfl, fun l hm => Option.some.inj hm ▸ s.recordBytes_length hl _ _⟩
  case isFalse ho => exact ⟨rfl, rfl, rfl, rfl, by simpa [ho] using hsome, hlength⟩

/-- A byte read moves the pointer within its record, or to the next one with the snapshot discarded (R170, R173). -/
theorem State.readByte_pointerLaw (h : s.pointerLaw) (hl : s.listLaw) : s.readByte.pointerLaw := by
  obtain ⟨hspace, hindex, hoffset, hstaging, hsome, hlength⟩ := State.takeSnapshot_law h hl
  obtain ⟨hi, -, -, -, hg⟩ := h
  simp only [State.readByte, Port.advance, hspace, hindex, hoffset]
  split
  case isTrue hmore =>
    refine ⟨?_, ?_, ?_, ?_, ?_⟩
    · simpa only [hspace, hindex] using hi
    · simpa only [hspace] using hmore
    · simpa using hsome
    · simpa only [hspace] using hlength
    · simpa only [hstaging] using hg
  case isFalse =>
    refine State.pointerLaw_of_reset ?_ rfl rfl ?_
    · simpa only [hspace] using nextIndex_lt _
    · simpa only [hstaging] using hg

theorem State.readBytes_pointerLaw (h : s.pointerLaw) (hl : s.listLaw) (count : Nat) :
    (s.readBytes count).pointerLaw := by
  induction count generalizing s with
  | zero => exact h
  | succ k ih =>
    refine ih (State.readByte_pointerLaw h hl) ?_
    rw [s.readByte_eq]
    exact hl

/-- The port at a record that it is about to commit. -/
theorem Port.reach_spot {space : Space} {i : Nat} (h : s.pointerLaw) :
    (s.port.reach space i).snapshot = none ∧ (s.port.reach space i).staging = [] := by
  obtain ⟨-, -, hsome, -, hg⟩ := h
  unfold Port.reach
  split
  case isTrue hat =>
    obtain ⟨-, -, ho⟩ := hat
    exact ⟨by simpa [ho] using hsome, hg⟩
  case isFalse => exact ⟨rfl, hg⟩

/-- A commit leaves the pointer at the record after it (R171). -/
theorem State.DialsLaw.of_commitAt {space : Space} {i : Nat} {effect : State → State} (h : s.DialsLaw)
    (he : ∀ v : State, (effect v).port.snapshot = v.port.snapshot ∧ (effect v).dials = v.dials) :
    (s.commitAt space i effect).DialsLaw := by
  obtain ⟨hsnapshot, hdials⟩ := he { s with port := s.port.reach space i }
  simp only [State.dials, Prod.mk.injEq] at hdials
  obtain ⟨-, hfilters⟩ := hdials
  obtain ⟨hp, hf⟩ := h
  obtain ⟨hnone, -⟩ := Port.reach_spot (space := space) (i := i) hp
  refine ⟨State.pointerLaw_of_reset (nextIndex_lt i) rfl (hsnapshot.trans hnone) rfl, ?_⟩
  rw [State.filtersLaw] at hf ⊢
  obtain ⟨hswitches, hholds, hforce, hsetup, hticks⟩ := hfilters
  simp only [State.commitAt, hswitches, hholds, hforce, hsetup, hticks]
  exact hf

theorem State.DialsLaw.of_maskedCommit {space : Space} {i : Nat} {effect : Option Wide → State → State} (h : s.DialsLaw)
    (hx : whenAnswering s (s.maskedCommit space i effect) = .next t)
    (he : ∀ mask (v : State), (effect mask v).dials = v.dials) : t.DialsLaw := by
  refine of_whenAnswering hx h fun _ _ => ?_
  refine State.DialsLaw.of_dials (s := s.commitAt space i (effect s.port.mask)) (h.of_commitAt fun v => ?_) rfl
  exact ⟨congrArg (fun d => d.1.2.2.2.1) (he s.port.mask v), he s.port.mask v⟩

theorem State.DialsLaw.of_command {i : Nat} {channel : Byte} {effect : State → State × CommandResult} (h : s.DialsLaw)
    (hx : whenAnswering s (s.command i channel effect) = .next t)
    (he : ∀ v : State, (effect v).1.dials = v.dials) : t.DialsLaw := by
  refine of_whenAnswering hx h fun _ _ => ?_
  refine h.of_commitAt (space := .command) (i := i) fun v => ?_
  have := he v
  exact ⟨congrArg (fun d => d.1.2.2.2.1) this, this⟩

theorem State.dials_ite {p : Prop} [Decidable p] {v : State} (hu : u.dials = s.dials) (hv : v.dials = s.dials) :
    (if p then u else v).dials = s.dials := by
  split
  · exact hu
  · exact hv

theorem State.dialsLaw_poweredOn (address : BitVec 7) (image : StoreWords) (q : List Instr) :
    (State.poweredOn address image q).DialsLaw := by
  obtain ⟨-, -, -, -, -, -, -, -, -, hfilters⟩ := State.poweredOn_countersInRange address image q
  exact ⟨State.poweredOn_pointerLaw address image q, hfilters⟩

theorem State.dialsLaw_beginRestart (s : State) : s.beginRestart.DialsLaw := by
  refine ⟨State.pointerLaw_of_reset ?_ rfl rfl rfl, ⟨fun n => ?_, fun h => ?_, ?_, ?_, ?_⟩⟩
  · show (0 : Nat) < 12
    decide
  · simp [State.beginRestart, SwitchLine.fresh]
  · simp [State.beginRestart, Filter.released]
  all_goals exact Nat.zero_le _

/-- The transactions of the port leave the pointer in a record and the filters as they were. -/
theorem dialsLaw_overPort {c : Instr} (hs : s.DialsLaw) (hl : s.listLaw) (h : exec c s = .next t) (hc : OverPort c) :
    t.DialsLaw := by
  obtain ⟨hp, hf⟩ := id hs
  have hstaging : s.port.staging = [] := hp.2.2.2.2
  cases c <;> try exact hc.elim
  case pointerSet address space index =>
    refine of_whenAnswering h hs fun _ _ => ?_
    split
    · exact of_ite hs fun hat => ⟨State.pointerLaw_of_reset hat.2 rfl rfl hstaging, hf⟩
    · exact hs
  case readTransaction address count =>
    refine of_whenAnswering h hs fun _ _ => of_ite hs fun _ => ⟨?_, ?_⟩
    · exact State.readBytes_pointerLaw (s := { s with port := { s.port with mask := none, sent := [] } }) hp hl count
    · rw [State.readBytes_eq]
      exact hf
  case statusSnapshot =>
    refine of_whenAnswering h hs fun _ _ => ⟨?_, ?_⟩
    · refine State.readByte_pointerLaw (s := { s with port := { s.port.pointAt .status 0 with sent := [] } }) ?_ hl
      exact State.pointerLaw_of_reset Nat.one_pos rfl rfl hstaging
    · rw [State.readByte_eq]
      exact hf
  case partialWrite space index data =>
    refine of_whenAnswering h hs fun _ _ => of_ite hs fun hw => ⟨State.pointerLaw_of_reset ?_ rfl rfl rfl, hf⟩
    simp only [stagedWell, Bool.and_eq_true, decide_eq_true_eq] at hw
    exact hw.1.1.2
  case listsWrite index data =>
    refine of_whenAnswering h hs fun _ _ => ⟨State.pointerLaw_of_reset ?_ rfl rfl hstaging, hf⟩
    exact Nat.mod_lt _ (by decide)
  case statusCommit => exact of_whenAnswering h hs fun _ _ => hs.of_commitAt fun v => ⟨rfl, rfl⟩
  case setChangeMask =>
    exact of_whenAnswering h hs fun _ _ => State.DialsLaw.of_dials
      (hs.of_commitAt (space := .command) (i := 6) (effect := fun v => v) fun v => ⟨rfl, rfl⟩) rfl
  case loadCommit n d => exact hs.of_maskedCommit h fun mask u => State.dials_of_apart (u.commitLoad_apart n mask _)
  case meterProfileCommit =>
    exact hs.of_maskedCommit h fun mask u => State.dials_ite rfl (State.dials_of_apart (u.refuseIf_apart _))
  case budgetProfileCommit =>
    exact hs.of_maskedCommit h fun mask u => State.dials_ite rfl (State.dials_of_apart (u.refuseIf_apart _))
  case restTableCommit =>
    exact hs.of_maskedCommit h fun mask u =>
      State.dials_ite (State.dials_ite rfl rfl) (State.dials_of_apart (u.refuseIf_apart _))
  case setReserve | clearAnchor => exact hs.of_command h fun _ => rfl
  case saveProfile =>
    refine hs.of_command h fun u => ?_
    unfold State.saveProfile
    split <;> rfl
  case restart =>
    refine of_whenAnswering h hs fun _ _ => ?_
    split
    · exact State.dialsLaw_beginRestart _
    · exact hs.of_commitAt (space := .command) (i := 5) (effect := fun v => v) fun v => ⟨rfl, rfl⟩
  case clearFault =>
    refine hs.of_command h fun u => ?_
    split
    · next n _ => exact State.dials_of_apart (u.clearFault_apart n)
    · rfl
  case forgetDraw =>
    refine hs.of_command h fun u => ?_
    split
    · next n _ => exact State.dials_of_apart (u.forgetDraw_apart n)
    · rfl

theorem SwitchLine.tick_run (d : Nat) (raw : Bool) (l : SwitchLine) : (l.tick d raw).run ≤ 250 := by
  unfold SwitchLine.tick
  split
  · exact Nat.zero_le _
  · exact Nat.min_le_right ..

theorem Filter.tick_run (raw : Bool) (f : Filter) : (f.tick raw).run ≤ 10 := by
  unfold Filter.tick
  split
  · exact Nat.zero_le _
  · exact Nat.min_le_right ..

theorem State.filtersLaw_lineTick (h : s.filtersLaw) (l : LineLevels) : (s.lineTick l).filtersLaw := by
  obtain ⟨-, -, -, -, hticks⟩ := h
  refine ⟨fun n => ?_, fun j => ?_, ?_, Filter.tick_run _ _, ?_⟩
  · simp only [State.lineTick, State.mapLoads_switches, Fin.getElem_fin, Vector.getElem_ofFn]
    split
    · exact Nat.zero_le _
    · exact SwitchLine.tick_run ..
  · simp only [State.lineTick, State.mapLoads_holds, Fin.getElem_fin, Vector.getElem_ofFn]
    exact Filter.tick_run ..
  · simp only [State.lineTick, State.mapLoads_forceOff]
    split
    · exact Nat.zero_le _
    · exact Filter.tick_run ..
  · simp only [State.lineTick, State.mapLoads_startup]
    split
    · exact hticks
    · exact Nat.min_le_right ..

theorem State.DialsLaw.switchToggled (h : s.DialsLaw) (n : Channel) : (s.switchToggled n).DialsLaw := by
  obtain ⟨hp, hswitches, hrest⟩ := h
  refine ⟨hp, fun m => ?_, hrest⟩
  have hget := s.switches.getElem_set (x := ⟨!s.switches[n].pressed, 0, false⟩) n.isLt m.isLt
  simp only [State.switchToggled, Fin.getElem_fin] at hget ⊢
  rw [hget]
  split
  · exact Nat.zero_le _
  · exact hswitches m

theorem State.DialsLaw.holdToggled (h : s.DialsLaw) (j : HoldLine) : (s.holdToggled j).DialsLaw := by
  obtain ⟨hp, hswitches, hholds, hrest⟩ := h
  refine ⟨hp, hswitches, fun k => ?_, hrest⟩
  have hget := s.holds.getElem_set (x := s.holds[j].toggled) j.isLt k.isLt
  simp only [State.holdToggled, Fin.getElem_fin] at hget ⊢
  rw [hget]
  split
  · exact Nat.zero_le _
  · exact hholds k

/-- Every other command leaves the pointer in a record and the filters in their ranges. -/
theorem dialsLaw_off_port {c : Instr} (hs : s.DialsLaw) (h : exec c s = .next t) (hc : ¬OverPort c) : t.DialsLaw := by
  have htaken : ∀ w, (s.workTaken w).DialsLaw := fun w => hs.of_dials rfl
  cases c <;> try exact absurd trivial hc
  case powerOn a b => exact Host.Outcome.next.inj h ▸ State.dialsLaw_poweredOn ..
  case lossOfPower cut =>
    refine of_whenPowered h hs fun _ => ?_
    exact State.dialsLaw_poweredOn s.port.address (storeAfterLoss s.store.saving s.store.image cut) s.pending
  case startupStage2 =>
    refine of_whenPowered h hs fun _ => of_ite hs fun _ => hs.of_dials ?_
    simp only [State.stage2]
    split <;> rfl
  case startupStage3 =>
    refine of_whenPowered h hs fun _ => ?_
    split
    next kept hk => exact of_ite hs fun _ =>
      (hs.of_dials (t := { s with startup := ⟨true, s.startup.ticks, none⟩ }) rfl).of_apart (s.stage3_apart kept)
    next => exact hs
  case captureTick => exact of_whenPowered h hs fun _ => hs.of_dials rfl
  case pulse | quietExpiry | fullSync | dwellIncrement | settleEnd | cleanRun | sampleTick =>
    exact of_whenPowered h hs fun _ => of_ite hs fun _ => hs.of_dials rfl
  case restReAnchor =>
    refine of_whenPowered h hs fun _ => of_ite hs fun _ => hs.of_dials ?_
    simp only [State.restReAnchor]
    split <;> rfl
  case evaluation =>
    exact of_whenPowered h hs fun _ => of_takeWork hs fun _ => of_ite (htaken _) fun _ =>
      State.DialsLaw.of_apart (s := (s.workTaken .evaluation).formAllowance) ((htaken .evaluation).of_dials rfl)
        (State.evaluate_apart _)
  case minOffExpiry =>
    exact of_whenPowered h hs fun _ => of_takeWork hs fun _ => of_ite (htaken _) fun _ => (htaken .minOff).of_apart (by simp)
  case holdLimitExpiry n =>
    exact of_whenPowered h hs fun _ => of_takeWork hs fun _ => (htaken _).of_apart (State.holdLimitTick_apart _ n)
  case minOnReached n =>
    exact of_whenPowered h hs fun _ => of_takeWork hs fun _ => (htaken _).of_apart (State.minOnCheck_apart _ n)
  case retryExpiry n =>
    exact of_whenPowered h hs fun _ => of_takeWork hs fun _ => (htaken _).of_apart (State.retryTick_apart _ n)
  case trip n => exact of_whenPowered h hs fun _ => of_ite hs fun _ => hs.of_apart (by simp)
  case stableLevelChange n =>
    exact of_whenPowered h hs fun _ => of_ite hs fun _ => (hs.switchToggled n).of_apart (by simp)
  case holdRelease line =>
    exact of_whenPowered h hs fun _ => of_ite hs fun _ => (hs.holdToggled line).of_apart (by simp)
  case holdAssertion line => exact of_whenPowered h hs fun _ => of_ite hs fun _ => hs.holdToggled line
  case setupLevelChange =>
    obtain ⟨hp, hswitches, hholds, hforce, -, hticks⟩ := id hs
    exact of_whenPowered h hs fun _ => of_ite hs fun _ => ⟨hp, hswitches, hholds, hforce, Nat.zero_le _, hticks⟩
  case forceOffAssertion =>
    obtain ⟨hp, hswitches, hholds, -, hrest⟩ := id hs
    refine of_whenPowered h hs fun _ => of_ite hs fun _ => ?_
    exact State.DialsLaw.of_apart (s := { s with forceOff := ⟨true, 0⟩ }) ⟨hp, hswitches, hholds, Nat.zero_le _, hrest⟩
      s.forceOffAsserted_apart
  case forceOffRelease =>
    obtain ⟨hp, hswitches, hholds, -, hrest⟩ := id hs
    refine of_whenPowered h hs fun _ => of_ite hs fun _ => ?_
    exact State.DialsLaw.of_apart (s := { s with forceOff := ⟨false, 0⟩ }) ⟨hp, hswitches, hholds, Nat.zero_le _, hrest⟩
      (by simp)
  case lineTick l =>
    exact of_whenPowered h hs fun _ => of_takeWork hs fun _ =>
      ⟨(htaken .line).1, State.filtersLaw_lineTick (htaken .line).2 l⟩
  case saveCompletion found =>
    refine of_whenPowered h hs fun _ => ?_
    split
    next image _ =>
      simp only [State.completeSave]
      split
      · exact State.dialsLaw_beginRestart _
      · exact hs.of_dials (State.dials_ite rfl rfl)
    next => exact hs

theorem exec_dialsLaw {c : Instr} (hs : s.DialsLaw) (hl : s.listLaw) (h : exec c s = .next t) : t.DialsLaw := by
  by_cases hc : OverPort c
  · exact dialsLaw_overPort hs hl h hc
  · exact dialsLaw_off_port hs h hc

/-! ## Battery Sense, the reserve and the profiles -/

/-- What one command makes of the measurements stays in its ranges (R26, R27, R45, R51, R52). -/
def Measures.Ranged (m : Measures) : Prop :=
  m.budget.lawful ∧ m.meter.lawful ∧ m.sense.counter ≤ 16777215 ∧ (∀ k ∈ m.sense.stamp, k ≤ 16777215)
    ∧ m.reserve.fullRun ≤ 14400 ∧ m.reserve.restRun ≤ 57600

theorem runStep_le {b : Bool} {limit run top : Nat} (h : limit ≤ top) : runStep b limit run ≤ top := by
  unfold runStep
  split
  · split <;> omega
  · exact Nat.zero_le _

theorem Reserve.clampTo_runs (e : Reserve) (m : Meter) :
    (e.clampTo m).fullRun = e.fullRun ∧ (e.clampTo m).restRun = e.restRun := by
  unfold Reserve.clampTo
  split
  · split <;> exact ⟨rfl, rfl⟩
  · exact ⟨rfl, rfl⟩

theorem Reserve.takePulse_runs (e : Reserve) (m : Meter) (d : Direction) :
    (e.takePulse m d).fullRun = e.fullRun ∧ (e.takePulse m d).restRun = e.restRun := by
  cases d with
  | discharge => exact ⟨rfl, rfl⟩
  | charge =>
    simp only [Reserve.takePulse, Reserve.chargePulse]
    split
    · exact ⟨rfl, rfl⟩
    · split <;> exact ⟨rfl, rfl⟩

theorem Sense.quietTest_stamp (m : Meter) (b : Sense) {k : Nat} (h : k ∈ (b.quietTest m).stamp) : k ∈ b.stamp := by
  unfold Sense.quietTest at h
  split at h
  · exact h
  · split at h
    · cases h
    · exact h

theorem MeasureStep.ranged {m : Measures} (h : MeasureStep s m) (hs : s.measures.Ranged) : m.Ranged := by
  have hbudget := h.budget_lawful hs.1
  have hmeter := h.meter_lawful hs.2.1
  refine ⟨hbudget, hmeter, ?_⟩
  obtain ⟨-, ⟨-, -, -, -, -, -, ⟨-, hrest⟩, -, -, -, -, -, hfull⟩, hcounter, hstamp, hfullRun, hrestRun⟩ := hs
  cases h with
  | powerOn => exact ⟨Nat.zero_le _, nofun, Nat.zero_le _, Nat.zero_le _⟩
  | clearAnchor => exact ⟨hcounter, hstamp, Nat.zero_le _, Nat.zero_le _⟩
  | capture high =>
    refine ⟨?_, hstamp, hfullRun, hrestRun⟩
    simp only [Sense.capture, counterRange]
    omega
  | quiet => exact ⟨by rw [Sense.quietTest_counter]; exact hcounter, fun k hk => hstamp k (Sense.quietTest_stamp _ _ hk),
      hfullRun, hrestRun⟩
  | pulse d =>
    obtain ⟨hf, hr⟩ := s.reserve.takePulse_runs s.meter d
    exact ⟨hcounter, fun k hk => Option.some.inj hk ▸ hcounter, hf.trans_le hfullRun, hr.trans_le hrestRun⟩
  | sample code =>
    refine ⟨?_, fun k hk => hstamp k (Sense.quietTest_stamp s.meter _ hk), runStep_le ?_, runStep_le ?_⟩
    · show (s.sense.quietTest s.meter).counter ≤ _
      rw [Sense.quietTest_counter]
      exact hcounter
    · exact Nat.mul_le_mul_right 240 hfull
    · exact Nat.mul_le_mul_right 240 hrest
  | stage2 image _ =>
    obtain ⟨hf, hr⟩ := s.reserve.clampTo_runs (meterOfWords image.meter)
    exact ⟨hcounter, hstamp, hf.trans_le hfullRun, hr.trans_le hrestRun⟩
  | meter mask w =>
    obtain ⟨hf, hr⟩ := s.reserve.clampTo_runs ((meterOfWords w).proposed mask s.meter)
    exact ⟨hcounter, hstamp, hf.trans_le hfullRun, hr.trans_le hrestRun⟩
  | _ => exact ⟨hcounter, hstamp, hfullRun, hrestRun⟩

/-! ## The spacing counter and the cut hold-off timer (R106) -/

/-- The engine's two counters lie in their ranges. -/
def State.TimersLaw (s : State) : Prop := s.engine.spacing ≤ 255 ∧ s.engine.holdOff ≤ 60

theorem State.TimersLaw.of_event (hs : s.TimersLaw) (hb : s.budget.cutHoldOff ≤ 60) (h : Event s t) : t.TimersLaw :=
  ⟨h.spacing hs.1, h.holdOff hb hs.2⟩

theorem exec_timersLaw {c : Instr} (hs : s.TimersLaw) (hb : s.budget.cutHoldOff ≤ 60) (h : exec c s = .next t) :
    t.TimersLaw := by
  by_cases hc : Resetting c
  case neg => exact hs.of_event hb (exec_ordinary h hc).1
  cases c <;> try exact hc.elim
  case powerOn => exact Host.Outcome.next.inj h ▸ ⟨Nat.le_refl 255, Nat.zero_le _⟩
  case lossOfPower cut => exact of_whenPowered h hs fun _ => ⟨Nat.le_refl 255, Nat.zero_le _⟩
  case startupStage2 =>
    refine of_whenPowered h hs fun _ => of_ite hs fun _ => ?_
    simp only [State.stage2]
    split <;> exact hs
  case startupStage3 =>
    refine of_whenPowered h hs fun _ => ?_
    split
    next kept _ =>
      refine of_ite hs fun _ => ?_
      rw [s.stage3_eq]
      generalize (s.entriesRebuilt kept).essentialSweep = u
      exact ⟨Nat.le_refl 255, Nat.zero_le _⟩
    next => exact hs
  case restart =>
    refine of_whenAnswering h hs fun _ _ => ?_
    split <;> exact hs
  case saveCompletion found =>
    refine of_whenPowered h hs fun _ => ?_
    split
    · simp only [State.completeSave]
      split <;> split <;> exact hs
    · exact hs
  case budgetProfileCommit d =>
    refine of_whenAnswering h hs fun _ _ => ?_
    have heffect : ∀ mask (u : State), u.TimersLaw → (u.commitBudget mask (budgetWordsOf d)).TimersLaw := fun mask u hu => by
      simp only [State.commitBudget]
      split
      · exact hu
      · rwa [State.TimersLaw, u.refuseIf_engine]
    exact heffect s.port.mask { s with port := s.port.reach .profile 1 } hs
  case forceOffAssertion =>
    exact of_whenPowered h hs fun _ => of_ite hs fun _ =>
      State.TimersLaw.of_event (s := { s with forceOff := ⟨true, 0⟩ }) hs hb (Event.forceOffAsserted s)
  case forceOffRelease =>
    exact of_whenPowered h hs fun _ => of_ite hs fun _ =>
      State.TimersLaw.of_event (s := { s with forceOff := ⟨false, 0⟩ }) hs hb ((Event.essentialSweep _).trans (.sweepWindows _))
  case lineTick l => exact of_whenPowered h hs fun _ => of_takeWork hs fun _ => hs

/-! ## The work that is due (R2) -/

theorem State.tickLaw_of_clock (hs : s.tickLaw) (hc : t.clock = s.clock) : t.tickLaw := by
  simp only [State.clock, Prod.mk.injEq] at hc
  obtain ⟨-, htimebase, hdue, -⟩ := hc
  rwa [State.tickLaw, htimebase, hdue]

theorem State.tickLaw_workTaken (hs : s.tickLaw) (w : TickWork) : (s.workTaken w).tickLaw := by
  obtain ⟨hle, hnodup, hnone, hfalls⟩ := hs
  refine ⟨hle, hnodup.erase w, fun h0 => ?_, fun v hv => hfalls v (List.mem_of_mem_erase hv)⟩
  rw [State.workTaken_due, hnone h0]
  rfl

theorem State.tickLaw_tickCounted (s : State) : s.tickCounted.tickLaw := by
  have hplace : s.timebase % 10000 + 1 ≤ 10000 := Nat.mod_lt _ (by decide)
  exact ⟨hplace, workAt_nodup _, fun h => absurd h (Nat.succ_ne_zero _), fun _ hw => hw⟩

theorem exec_tickLaw {c : Instr} (hs : s.tickLaw) (h : exec c s = .next t) : t.tickLaw := by
  cases hw : c.work with
  | some w =>
    have hc := exec_clock_of_work hw h
    split at hc
    · exact State.tickLaw_of_clock (State.tickLaw_workTaken hs w) hc
    · exact State.tickLaw_of_clock hs hc
  | none =>
    by_cases hc : SetsClock c
    case neg => exact State.tickLaw_of_clock hs (exec_clock_of_other hw hc h)
    cases c <;> try exact hc.elim
    case powerOn => exact Host.Outcome.next.inj h ▸ State.poweredOn_tickLaw ..
    case lossOfPower cut =>
      refine of_whenPowered h hs fun _ => ?_
      exact State.poweredOn_tickLaw s.port.address (storeAfterLoss s.store.saving s.store.image cut) s.pending
    case captureTick => exact of_whenPowered h hs fun _ => s.tickLaw_tickCounted

/-! ## Steps -/

/-- The laws of the pointer, of the counters and of the work that is due, together with that of the lists. -/
def State.Bounded (s : State) : Prop := s.DialsLaw ∧ s.measures.Ranged ∧ s.TimersLaw ∧ s.tickLaw

theorem State.bounded_iff : s.Bounded ↔ s.pointerLaw ∧ s.countersInRange ∧ s.tickLaw := by
  constructor
  · rintro ⟨⟨hp, hf⟩, ⟨hbudget, hmeter, hcounter, hstamp, hfull, hrest⟩, ⟨hspacing, hhold⟩, ht⟩
    exact ⟨hp, ⟨hbudget, hmeter, hcounter, ht.1, hstamp, hfull, hrest, hspacing, hhold, hf⟩, ht⟩
  · rintro ⟨hp, ⟨hbudget, hmeter, hcounter, -, hstamp, hfull, hrest, hspacing, hhold, hf⟩, ht⟩
    exact ⟨⟨hp, hf⟩, ⟨hbudget, hmeter, hcounter, hstamp, hfull, hrest⟩, ⟨hspacing, hhold⟩, ht⟩

theorem exec_bounded {c : Instr} (hs : s.Bounded) (hl : s.listLaw) (h : exec c s = .next t) : t.Bounded := by
  obtain ⟨hdials, hranged, htimers, htick⟩ := hs
  obtain ⟨-, -, -, -, -, -, -, ⟨-, hb⟩, -⟩ := hranged.1
  exact ⟨exec_dialsLaw hdials hl h, (exec_measures h).ranged hranged, exec_timersLaw htimers hb h, exec_tickLaw htick h⟩

end

/-- Settles O59: the pointer and the filters, the measurements, the engine's timers and the clock, each by what a command can
do to them. -/
theorem pointerAndCountersStayInRange : Obligations.PointerAndCountersStayInRange := by
  intro s t hp hl hc ht h
  have hs : s.Bounded := State.bounded_iff.mpr ⟨hp, hc, ht⟩
  have hstep : t.Bounded := by
    unfold step at h
    split at h
    · exact Host.Outcome.next.inj h ▸ hs
    · next c rest _ => exact exec_bounded (s := { s with pending := rest }) hs hl h
  exact State.bounded_iff.mp hstep

end Sys2Proof.Machine
end

section
/-! PROOFS. The stages of an evaluation (R107 to R122): what the walk and the depleted stage can leave of the part, which
candidates the walk acts on, the restore and the close. -/

namespace Sys2Proof.Machine

/-! ## Sums over channels -/

/-- Two lists without repeats of the same channels give the same sum. -/
theorem sum_map_of_mem {l l' : List Channel} (f : Channel → Nat) (hl : l.Nodup) (hl' : l'.Nodup)
    (h : ∀ m, m ∈ l ↔ m ∈ l') : (l.map f).sum = (l'.map f).sum :=
  (((List.perm_ext_iff_of_nodup hl hl').mpr h).map f).sum_eq

theorem mem_channels_filter {p : Channel → Bool} {m : Channel} : m ∈ channels.filter p ↔ p m = true := by
  simp [List.mem_filter, mem_channels]

/-- The draws of the records that stood on in a part and are off in another. -/
def State.drawsLost (a b : State) : Nat :=
  ((channels.filter fun m => (a.load m).on && !(b.load m).on).map fun m => (a.load m).drawMa).sum

theorem State.drawsLost_cut {a b c : State} {n : Channel} (ha : (a.load n).on = true) (hb : (b.load n).on = true)
    (hc : (c.load n).on = false) (ho : ∀ m, m ≠ n → c.load m = b.load m) :
    a.drawsLost c = (a.load n).drawMa + a.drawsLost b := by
  rw [State.drawsLost, State.drawsLost, ← List.sum_cons, ← List.map_cons (f := fun m => (a.load m).drawMa)]
  refine sum_map_of_mem _ (channels_nodup.filter _) (List.nodup_cons.mpr ⟨?_, channels_nodup.filter _⟩) fun m => ?_
  · simp [hb]
  · rw [mem_channels_filter, List.mem_cons, mem_channels_filter]
    by_cases hm : m = n
    · simp [hm, ha, hc]
    · simp [hm, ho m hm]

theorem State.drawsLost_of_on {a b c : State} (h : ∀ m, (c.load m).on = (b.load m).on) : a.drawsLost c = a.drawsLost b := by
  simp only [State.drawsLost, h]

theorem State.drawsLost_self (a : State) : a.drawsLost a = 0 := by
  simp [State.drawsLost]

/-! ## What the walk and the depleted stage leave (R110, R112, R116) -/

/-- The part that these two stages have made of part a, with the draw they began with: some records of the Run List are cut,
some stand as BUDGET deferrals, and every other record is as it was. -/
structure Walk.Reach (a : State) (p : Int) (w : Walk) : Prop where
  apart : w.part.apart = a.apart
  base : ∀ m, (w.part.load m).cutStandby false true = (a.load m).cutStandby false true
  on : ∀ m, (w.part.load m).on = true → (a.load m).on = true ∧
    (w.part.load m = a.load m ∨ ((w.part.load m).state = .deferred ∧ (w.part.load m).reason = .deferred .budget))
  off : ∀ m, (w.part.load m).on = false → ((a.load m).on = false ∧ w.part.load m = a.load m)
    ∨ ((a.load m).on = true ∧ w.part.load m = (a.load m).cutStandby a.forceOff.level true)
  draw : w.draw = p - (a.drawsLost w.part : Nat)
  cut : w.cut = true ↔ ∃ m, (a.load m).on = true ∧ (w.part.load m).on = false
  engine : w.part.engine = { a.engine with
    runList := w.part.engine.runList, standbyList := w.part.engine.standbyList
    holdOff := if w.cut then a.budget.cutHoldOff else a.engine.holdOff }
  lists : w.cut = false → w.part.engine.runList = a.engine.runList ∧ w.part.engine.standbyList = a.engine.standbyList
  flags : w.part.port.flags = a.port.flags ||| (if w.cut then 0x01 else 0x00)

section
variable {a : State} {p : Int} {w : Walk} {n : Channel}

theorem Walk.Reach.start (a : State) (p : Int) : Walk.Reach a p ⟨a, p, false⟩ where
  apart := rfl
  base _ := rfl
  on _ h := ⟨h, .inl rfl⟩
  off _ h := .inl ⟨h, rfl⟩
  draw := by simp [State.drawsLost_self]
  cut := by simp
  engine := rfl
  lists _ := ⟨rfl, rfl⟩
  flags := by simp

/-- A record keeps its effective draw. -/
theorem Walk.Reach.drawMa (h : w.Reach a p) (m : Channel) : (w.part.load m).drawMa = (a.load m).drawMa := by
  have hl : (w.part.load m).learnedDraw = (a.load m).learnedDraw := (congrArg Load.learnedDraw (h.base m) :)
  have hd : (w.part.load m).declaredDraw = (a.load m).declaredDraw := (congrArg Load.declaredDraw (h.base m) :)
  rw [Load.drawMa, hl, hd]
  rfl

/-- A budget cut of an on record (R110). -/
theorem Walk.Reach.makeCut (h : w.Reach a p) (hon : (w.part.load n).on = true) : (w.makeCut n).Reach a p := by
  have hload := State.load_budgetCut_self hon
  have hforce : w.part.forceOff = a.forceOff := State.forceOff_of_apart h.apart
  have hbudget : w.part.budget = a.budget := State.budget_of_apart h.apart
  have hself : (w.makeCut n).part.load n = (a.load n).cutStandby a.forceOff.level true := by
    refine hload.trans ?_
    rw [hforce]
    have := h.base n
    exact congrArg (fun r : Load => { r with
      reason := .standby (if a.forceOff.level then .forced else if 0 < r.minOff then .minOff else .queued) }) this
  have hother : ∀ m, m ≠ n → (w.makeCut n).part.load m = w.part.load m := fun m hm =>
    State.load_of_others (w.part.budgetCut_others n) hm
  have hnoff : ((w.makeCut n).part.load n).on = false := by rw [hself]; rfl
  obtain ⟨hna, -⟩ := h.on n hon
  obtain ⟨heng, -⟩ := State.engine_budgetCut hon
  refine ⟨(w.part.budgetCut_apart n).trans h.apart, fun m => ?_, fun m hm => ?_, fun m hm => ?_, ?_, ?_, ?_, nofun, ?_⟩
  · by_cases hmn : m = n
    · rw [hmn, hself]
    · rw [hother m hmn]
      exact h.base m
  · have hmn : m ≠ n := by
      rintro rfl
      rw [hnoff] at hm
      cases hm
    rw [hother m hmn] at hm ⊢
    exact h.on m hm
  · by_cases hmn : m = n
    · rw [hmn]
      exact .inr ⟨hna, hself⟩
    · rw [hother m hmn] at hm ⊢
      exact h.off m hm
  · show w.draw - ((w.part.load n).drawMa : Int) = _
    rw [State.drawsLost_cut hna hon hnoff hother, h.draw, h.drawMa n]
    push_cast
    omega
  · refine iff_of_true rfl ⟨n, hna, hnoff⟩
  · have hkeeps : ∀ (e : Engine) (standby : List Channel),
        e = { w.part.engine with
          runList := w.part.engine.runList.erase n, standbyList := standby, holdOff := a.budget.cutHoldOff } →
        e = { a.engine with
          runList := e.runList, standbyList := e.standbyList, holdOff := a.budget.cutHoldOff } := by
      rintro e standby rfl
      rw [h.engine]
    exact hkeeps _ _ (hbudget ▸ heng)
  · refine (State.flags_budgetCut hon).trans ?_
    rw [h.flags]
    split
    · rw [BitVec.or_assoc]
      rfl
    · simp [Walk.makeCut]

/-- A change of an on record that leaves it a BUDGET deferral. -/
theorem Walk.Reach.defer (h : w.Reach a p) {f : Load → Load} (hon : (w.part.load n).on = true)
    (hs : (f (w.part.load n)).state = .deferred) (hr : (f (w.part.load n)).reason = .deferred .budget)
    (hbase : (f (w.part.load n)).cutStandby false true = (w.part.load n).cutStandby false true) :
    Walk.Reach a p { w with part := w.part.modify n f } := by
  have hself := w.part.load_modify_self n f
  have hother : ∀ m, m ≠ n → (w.part.modify n f).load m = w.part.load m := fun m hm => w.part.load_modify_of_ne f hm
  have hnon : ((w.part.modify n f).load n).on = true := by rw [hself, Load.on_of_deferred hs]
  have hons : ∀ m, ((w.part.modify n f).load m).on = (w.part.load m).on := fun m => by
    by_cases hmn : m = n
    · rw [hmn, hnon, hon]
    · rw [hother m hmn]
  refine ⟨h.apart, fun m => ?_, fun m hm => ?_, fun m hm => ?_, ?_, ?_, h.engine, h.lists, h.flags⟩
  · by_cases hmn : m = n
    · rw [hmn, hself, hbase]
      exact h.base n
    · rw [hother m hmn]
      exact h.base m
  · by_cases hmn : m = n
    · rw [hmn, hself]
      exact ⟨(h.on n hon).1, .inr ⟨hs, hr⟩⟩
    · rw [hother m hmn] at hm ⊢
      exact h.on m hm
  · have hmn : m ≠ n := by
      rintro rfl
      rw [hnon] at hm
      cases hm
    rw [hother m hmn] at hm ⊢
    exact h.off m hm
  · rw [State.drawsLost_of_on hons]
    exact h.draw
  · simp only [hons]
    exact h.cut

theorem Walk.Reach.candidate (h : w.Reach a p) (n : Channel) : (w.candidate n).Reach a p := by
  unfold Walk.candidate
  split
  case isTrue ht =>
    have hon := Load.walkable_on (Bool.and_eq_true_iff.mp ht).2
    split
    · exact h.makeCut hon
    · exact h.defer hon rfl rfl rfl
  case isFalse => exact h

theorem Walk.Reach.depletedRecord (h : w.Reach a p) (n : Channel) : (w.depletedRecord n).Reach a p := by
  simp only [Walk.depletedRecord]
  split
  case isTrue ht =>
    obtain ⟨hs, hr⟩ : (w.part.load n).state = .deferred ∧ (w.part.load n).reason = .deferred .budget := by simpa using ht
    have hwait := h.defer (f := fun r => { r with waitMinOn := false }) (Load.on_of_deferred hs) hs hr rfl
    split
    · exact hwait
    · refine hwait.makeCut (n := n) ?_
      rw [w.part.load_modify_self]
      exact Load.on_of_deferred hs
  case isFalse => exact h

theorem Walk.Reach.foldl {f : Walk → Channel → Walk} (hf : ∀ w n, w.Reach a p → (f w n).Reach a p) (l : List Channel)
    (h : w.Reach a p) : (l.foldl f w).Reach a p := by
  induction l generalizing w with
  | nil => exact h
  | cons n l ih => exact ih (hf w n h)

theorem Walk.Reach.deficitWalk (h : w.Reach a p) : w.deficitWalk.Reach a p := by
  unfold Walk.deficitWalk
  split
  · exact .foldl (fun _ n hw => hw.candidate n) _ h
  · exact h

theorem Walk.Reach.depletedStage (h : w.Reach a p) : w.depletedStage.Reach a p := by
  unfold Walk.depletedStage
  split
  · exact .foldl (fun _ n hw => hw.depletedRecord n) _ h
  · exact h

/-- Where nothing was cut and no BUDGET deferral stands, nothing was done. -/
theorem Walk.Reach.untouched (h : w.Reach a p) (hc : w.cut = false)
    (hd : ∀ m, (w.part.load m).reason ≠ .deferred .budget) :
    (∀ m, w.part.load m = a.load m) ∧ w.part.engine = a.engine ∧ w.draw = p := by
  have hsame : ∀ m, w.part.load m = a.load m := fun m => by
    cases hon : (w.part.load m).on with
    | true =>
      obtain ⟨-, hs | ⟨-, hr⟩⟩ := h.on m hon
      · exact hs
      · exact absurd hr (hd m)
    | false =>
      obtain ⟨-, hs⟩ | ⟨ha, -⟩ := h.off m hon
      · exact hs
      · rw [h.cut.mpr ⟨m, ha, hon⟩] at hc
        cases hc
  refine ⟨hsame, ?_, ?_⟩
  · obtain ⟨hrun, hstandby⟩ := h.lists hc
    rw [h.engine, hrun, hstandby, hc]
    rfl
  · rw [h.draw, State.drawsLost_of_on (b := a) fun m => by rw [hsame m], State.drawsLost_self]
    simp

end

/-! ## One record through the stages -/

section
variable {w : Walk} {n : Channel} {r : Load}

theorem Walk.makeCut_others (w : Walk) (n : Channel) : (w.makeCut n).part.others n = w.part.others n :=
  w.part.budgetCut_others n

theorem Walk.candidate_others (w : Walk) (n : Channel) : (w.candidate n).part.others n = w.part.others n := by
  unfold Walk.candidate
  split
  · split
    · exact w.makeCut_others n
    · exact w.part.modify_others n _
  · rfl

theorem Walk.depletedRecord_others (w : Walk) (n : Channel) : (w.depletedRecord n).part.others n = w.part.others n := by
  simp only [Walk.depletedRecord]
  split
  · split
    · exact w.part.modify_others n _
    · exact (Walk.makeCut_others _ n).trans (w.part.modify_others n _)
  · rfl

/-- Steps at single records leave a record that its own step leaves. -/
theorem Walk.load_foldl {f : Walk → Channel → Walk} (ho : ∀ w n, (f w n).part.others n = w.part.others n)
    (hn : ∀ w : Walk, w.part.load n = r → (f w n).part.load n = r) (l : List Channel) (h : w.part.load n = r) :
    (l.foldl f w).part.load n = r := by
  induction l generalizing w with
  | nil => exact h
  | cons m l ih =>
    refine ih ?_
    by_cases hm : n = m
    · exact hm ▸ hn w h
    · rw [State.load_of_others (ho w m) hm]
      exact h

/-- Steps at other records leave a record. -/
theorem Walk.load_foldl_of_not_mem {f : Walk → Channel → Walk} (ho : ∀ w n, (f w n).part.others n = w.part.others n)
    {l : List Channel} (hn : n ∉ l) (w : Walk) : (l.foldl f w).part.load n = w.part.load n := by
  induction l generalizing w with
  | nil => rfl
  | cons m l ih =>
    obtain ⟨hm, hl⟩ : n ≠ m ∧ n ∉ l := by simpa using hn
    rw [List.foldl_cons, ih hl, State.load_of_others (ho w m) hm]

theorem Walk.candidate_of_not_walkable (h : ¬(w.part.load n).walkable = true) : w.candidate n = w := by
  rw [Walk.candidate, if_neg]
  simp [h]

theorem Walk.depletedRecord_of_not
    (h : ¬((w.part.load n).state = .deferred ∧ (w.part.load n).reason = .deferred .budget)) : w.depletedRecord n = w := by
  simp only [Walk.depletedRecord]
  rw [if_neg]
  simpa using h

/-- The walk leaves a record that is no candidate (R97, R115). -/
theorem Walk.load_deficitWalk_of_not_walkable (h : ¬(w.part.load n).walkable = true) :
    w.deficitWalk.part.load n = w.part.load n := by
  unfold Walk.deficitWalk
  split
  · refine Walk.load_foldl Walk.candidate_others (fun v hv => ?_) _ rfl
    rw [Walk.candidate_of_not_walkable (by rwa [hv]), hv]
  · rfl

/-- The depleted stage leaves a record that is no BUDGET deferral (R116). -/
theorem Walk.load_depletedStage_of_not
    (h : ¬((w.part.load n).state = .deferred ∧ (w.part.load n).reason = .deferred .budget)) :
    w.depletedStage.part.load n = w.part.load n := by
  unfold Walk.depletedStage
  split
  · refine Walk.load_foldl Walk.depletedRecord_others (fun v hv => ?_) _ rfl
    rw [Walk.depletedRecord_of_not (by rwa [hv]), hv]
  · rfl

/-- The restore starts the candidate, or does nothing (R118 to R120). -/
theorem Walk.restore_cases (w : Walk) :
    (w.restore = w.part ∧ ∀ m, w.part.restoreCandidate = some m → ¬(w.fits m = true ∧ w.blocked = false))
      ∨ ∃ m, w.restore = w.part.start m ∧ w.part.restoreCandidate = some m ∧ w.fits m = true ∧ w.blocked = false := by
  unfold Walk.restore
  split
  case h_1 m hm =>
    split
    case isTrue ht =>
      obtain ⟨hf, hb⟩ : w.fits m = true ∧ w.blocked = false := by simpa using ht
      exact .inr ⟨m, rfl, hm, hf, hb⟩
    case isFalse ht =>
      refine .inl ⟨rfl, fun k hk => ?_⟩
      obtain rfl := Option.some.inj (hm.symm.trans hk)
      simpa using ht
  case h_2 hn =>
    refine .inl ⟨rfl, fun k hk => ?_⟩
    rw [hn] at hk
    cases hk

theorem Walk.blocked_iff : w.blocked = false ↔ w.cut = false
    ∧ (∀ m, ¬((w.part.load m).state = .deferred ∧ (w.part.load m).reason = .deferred .budget))
    ∧ (∀ m, (w.part.load m).state ≠ .starting) ∧ w.part.budget.spacing ≤ w.part.engine.spacing := by
  have hb : w.part.anyBudgetDeferral = false ↔
      ∀ m, ¬((w.part.load m).state = .deferred ∧ (w.part.load m).reason = .deferred .budget) := by
    rw [← Bool.not_eq_true, State.anyBudgetDeferral_iff, not_exists]
  have hs : w.part.anyStarting = false ↔ ∀ m, (w.part.load m).state ≠ .starting := by
    rw [← Bool.not_eq_true, State.anyStarting_iff, not_exists]
  simp only [Walk.blocked, Bool.or_eq_false_iff, hb, hs, decide_eq_false_iff_not, Nat.not_lt, and_assoc]

theorem Walk.fits_iff : w.fits n = true ↔ w.part.budget.marginMa ≤ w.part.engine.allowance
    ∧ w.draw + ((w.part.load n).drawMa : Nat) ≤ (w.part.engine.allowance : Int) - w.part.budget.marginMa := by
  simp [Walk.fits, startTest]

/-- The restore leaves a record outside STANDBY. -/
theorem Walk.load_restore_of_not_standby (h : (w.part.load n).state ≠ .standby) : w.restore.load n = w.part.load n := by
  obtain ⟨hr, -⟩ | ⟨m, hr, -⟩ := w.restore_cases
  · rw [hr]
  · rw [hr]
    by_cases hm : n = m
    · rw [State.start_refused _ (by rw [← hm]; exact fun hs => h hs.1)]
    · exact State.load_of_others (w.part.start_others m) hm

/-- A cut within the evaluation blocks the restore (R118). -/
theorem Walk.restore_of_cut (h : w.cut = true) : w.restore = w.part := by
  obtain ⟨hr, -⟩ | ⟨m, -, -, -, hb⟩ := w.restore_cases
  · exact hr
  · rw [Walk.blocked_iff, h] at hb
    exact absurd hb.1 nofun

end

/-! ## The reasons, the level and the close -/

section
variable (s : State) (n : Channel)

/-- The walk and the depleted stage of an evaluation (R111 to R116). -/
def State.walked : Walk := (Walk.deficitWalk ⟨s.formAllowance, s.formAllowance.sense.pub.filtered, false⟩).depletedStage

theorem State.beforeLevel_eq : s.beforeLevel =
    s.walked.restore.refreshReasons s.walked.part.restoreCandidate (s.walked.part.restoreCandidate.any s.walked.fits) := rfl

theorem State.walked_reach : s.walked.Reach s.formAllowance s.sense.pub.filtered :=
  (Walk.Reach.start s.formAllowance _).deficitWalk.depletedStage

theorem State.walked_inOrder {s : State} (h : s.listsInOrder) : s.walked.part.listsInOrder :=
  Walk.listsInOrder_depletedStage (Walk.listsInOrder_deficitWalk
    (w := ⟨s.formAllowance, s.formAllowance.sense.pub.filtered, false⟩) (State.listsInOrder_of_loads h rfl rfl))

theorem State.load_refreshReasons (candidate : Option Channel) (fits : Bool) :
    (s.refreshReasons candidate fits).load n = if (s.load n).state = .standby
      then { s.load n with reason := .standby (s.refreshedReason candidate fits n) } else s.load n :=
  s.load_mapLoads n _

/-- The records that the end of an evaluation sweeps. -/
theorem State.load_closed : s.setLevel.close.load n = s.load n := by
  simp only [State.load, State.close, State.setLevel_loads]

/-- The record that E6 leaves is that of the evaluation, but for its window. -/
theorem State.evaluate_sameButWindow {s : State} {n : Channel} {r : Load} (h : s.beforeLevel.load n = r) :
    r.sameButWindow n s.evaluate := by
  rw [s.evaluate_eq]
  exact Load.sameButWindow_sweepWindows ((s.beforeLevel.load_closed n).trans h)

theorem State.evaluate_load_of_closed {s : State} {n : Channel} {r : Load} (h : s.beforeLevel.load n = r)
    (hw : r.window = .closed) : s.evaluate.load n = r := by
  have hsame := State.evaluate_sameButWindow h
  rw [Load.sameButWindow, hw] at hsame
  rw [hsame, Window.leftIn, ← hw]

/-- A record outside STANDBY after the depleted stage stays so to the end of the evaluation. -/
theorem State.beforeLevel_load_of_not_standby {s : State} {n : Channel} (h : (s.walked.part.load n).state ≠ .standby) :
    s.beforeLevel.load n = s.walked.part.load n := by
  have hr := Walk.load_restore_of_not_standby h
  rw [s.beforeLevel_eq, State.load_refreshReasons, hr, if_neg h]

/-- A record cut by the evaluation is in STANDBY with some reason at its end, and SHED is set (R100, R123). -/
theorem State.evaluate_of_cut {s : State} {n : Channel} {forced : Bool} (hon : (s.load n).on = true)
    (h : s.walked.part.load n = (s.load n).cutStandby forced true) :
    (∃ why : StandbyReason, s.evaluate.load n = { (s.load n).cutStandby false true with reason := .standby why })
      ∧ s.evaluate.flag .shed = true := by
  have hoff : (s.walked.part.load n).on = false := by rw [h]; rfl
  have hcut : s.walked.cut = true := s.walked_reach.cut.mpr ⟨n, hon, hoff⟩
  have hstandby : (s.walked.part.load n).state = .standby := by rw [h]
  refine ⟨⟨_, State.evaluate_load_of_closed (r := { (s.load n).cutStandby false true with
    reason := .standby (s.walked.part.refreshedReason s.walked.part.restoreCandidate
      (s.walked.part.restoreCandidate.any s.walked.fits) n) }) ?_ rfl⟩, ?_⟩
  · rw [s.beforeLevel_eq, Walk.restore_of_cut hcut, State.load_refreshReasons, if_pos hstandby, h]
  · have hflags : s.beforeLevel.port.flags = s.port.flags ||| 0x01 := by
      have := s.walked_reach.flags
      rw [hcut] at this
      rw [s.beforeLevel_eq, Walk.restore_of_cut hcut]
      exact this
    rw [s.evaluate_flag]
    have hset : ∀ u : State, u.flag .shed = true → u.setLevel.flag .shed = true := fun u hu => by
      simp only [State.setLevel]
      split
      · simp only [State.flag, State.raise, Flag.mask, Flag.bit] at hu ⊢
        simpa using hu
      · exact hu
    refine hset _ ?_
    rw [State.flag, hflags]
    simp [Flag.bit]

end

end Sys2Proof.Machine
end

section
/-! PROOFS. The evaluation: which candidates the walk acts on, the depleted stage, the restore, the reasons and the close. -/

namespace Sys2Proof.Machine

/-! ## The shed order (R97) -/

theorem foldr_insertBy_perm (before : Channel → Channel → Bool) (l : List Channel) :
    (l.foldr (insertBy before) []).Perm l := by
  induction l with
  | nil => exact .refl _
  | cons n l ih => exact (insertBy_perm before n _).trans (ih.cons n)

theorem pairwise_foldr_insertBy {before : Channel → Channel → Bool} {R : Channel → Channel → Prop}
    (htrans : ∀ a b c, R a b → R b c → R a c) (hbefore : ∀ n m, before n m = true ↔ R n m) {l : List Channel}
    (hl : l.Nodup) (htotal : ∀ n ∈ l, ∀ m ∈ l, n ≠ m → R n m ∨ R m n) : (l.foldr (insertBy before) []).Pairwise R := by
  induction l with
  | nil => exact .nil
  | cons n l ih =>
    obtain ⟨hn, hl⟩ := List.nodup_cons.mp hl
    refine pairwise_insertBy htrans (hbefore n)
      (ih hl fun a ha b hb => htotal a (List.mem_cons_of_mem _ ha) b (List.mem_cons_of_mem _ hb)) fun m hm => ?_
    have hm := (foldr_insertBy_perm before l).mem_iff.mp hm
    exact htotal n List.mem_cons_self m (List.mem_cons_of_mem _ hm) fun he => hn (he ▸ hm)

section
variable {s : State} {n : Channel}

/-- The shed order lists each candidate once, those before another in it first (R97). -/
theorem State.shedOrder_sorted (h : s.listsInOrder) :
    s.shedOrder.Nodup ∧ (∀ m, m ∈ s.shedOrder ↔ s.isCandidate m = true)
      ∧ s.shedOrder.Pairwise fun m k => s.shedsBefore m k = true := by
  obtain ⟨hr, hp⟩ := State.listsInOrder_iff.mp h
  obtain ⟨honrun, -, hnodup, -⟩ := hp.lists
  obtain ⟨-, -, -, hstartne⟩ := hp.stamps
  have hperm := foldr_insertBy_perm s.shedBefore (s.engine.runList.filter fun n => (s.load n).walkable)
  have hmem : ∀ m, m ∈ s.engine.runList.filter (fun n => (s.load n).walkable) ↔ s.isCandidate m = true := fun m => by
    rw [List.mem_filter, honrun]
    exact and_iff_right_of_imp Load.walkable_on
  refine ⟨hperm.nodup_iff.mpr (hnodup.filter _), fun m => hperm.mem_iff.trans (hmem m), ?_⟩
  refine pairwise_foldr_insertBy (R := fun m k => s.shedsBefore m k = true) (fun a b c hab hbc => ?_) (fun _ _ => .rfl)
    (hnodup.filter _) fun a ha b hb hne => ?_
  · simp only [State.shedsBefore, Bool.or_eq_true, Bool.and_eq_true, decide_eq_true_eq, beq_iff_eq] at hab hbc ⊢
    omega
  · have hstamp : ∀ m, m ∈ s.engine.runList.filter (fun n => (s.load n).walkable) → ∃ k, (s.load m).startStamp = some k :=
      fun m hm => Option.isSome_iff_exists.mp (hp.begun m (Load.walkable_on ((hmem m).mp hm)))
    obtain ⟨j, hj⟩ := hstamp a ha
    obtain ⟨k, hk⟩ := hstamp b hb
    have hjk : j ≠ k := by
      rintro rfl
      have := hstartne a b hne (hj.trans hk.symm)
      rw [this] at hj
      cases hj
    simp only [State.shedsBefore, Bool.or_eq_true, Bool.and_eq_true, decide_eq_true_eq, beq_iff_eq, hj, hk,
      Option.getD_some]
    omega

/-! ## The walk's draw (R110, R112) -/

theorem State.cutPossible_of_apart {t : State} (h : t.apart = s.apart) (r : Load) : t.cutPossible r = s.cutPossible r := by
  have hholds : t.holds = s.holds := State.holds_of_apart h
  have hallow : t.engine.allowance = s.engine.allowance := State.allowance_of_apart h
  simp only [State.cutPossible, State.held, hholds, hallow]

/-- The draws of those of a list that can be cut now. -/
def State.reliefOf (s : State) (l : List Channel) : Nat :=
  ((l.filter fun m => s.cutPossible (s.load m)).map fun m => (s.load m).drawMa).sum

theorem State.reliefOf_cons (n : Channel) (l : List Channel) :
    s.reliefOf (n :: l) = (if s.cutPossible (s.load n) = true then (s.load n).drawMa else 0) + s.reliefOf l := by
  unfold State.reliefOf
  rw [List.filter_cons]
  split
  · rw [List.map_cons, List.sum_cons]
  · rw [Nat.zero_add]

theorem Walk.deficit_iff {w : Walk} : w.deficit = true ↔ (w.part.engine.allowance : Int) < w.draw := by simp [Walk.deficit]

/-- A candidate that is acted on: its cut lowers the draw, its deferral does not. -/
theorem Walk.candidate_of_deficit {w : Walk} (hd : w.deficit = true) (hw : (w.part.load n).walkable = true) :
    w.candidate n = if w.part.cutPossible (w.part.load n) then w.makeCut n else { w with part := w.part.deferBudget n } :=
  if_pos (by rw [hd, hw]; rfl)

theorem Walk.candidate_of_no_deficit {w : Walk} (hd : ¬w.deficit = true) (n : Channel) : w.candidate n = w :=
  if_neg (by simp [hd])

theorem Walk.candidate_draw {w : Walk} (hd : w.deficit = true) (hw : (w.part.load n).walkable = true) :
    (w.candidate n).draw
      = w.draw - ((if w.part.cutPossible (w.part.load n) = true then (w.part.load n).drawMa else 0 : Nat) : Int) := by
  rw [Walk.candidate_of_deficit hd hw]
  split
  · rfl
  · simp

/-- After a stretch of candidates the draw still exceeds A exactly where the draw before it, less what they relieve, does. -/
theorem Walk.deficit_foldl {l : List Channel} (hl : l.Nodup) {w : Walk} (ha : w.part.apart = s.apart)
    (hr : ∀ m ∈ l, w.part.load m = s.load m ∧ (s.load m).walkable = true) :
    (l.foldl Walk.candidate w).part.apart = s.apart
      ∧ ((l.foldl Walk.candidate w).deficit = true ↔ (s.engine.allowance : Int) < w.draw - (s.reliefOf l : Nat)) := by
  have hallow : ∀ v : Walk, v.part.apart = s.apart → v.part.engine.allowance = s.engine.allowance := fun v hv =>
    State.allowance_of_apart hv
  induction l generalizing w with
  | nil => exact ⟨ha, by simp [Walk.deficit_iff, hallow w ha, State.reliefOf]⟩
  | cons n l ih =>
    obtain ⟨hn, hl⟩ := List.nodup_cons.mp hl
    obtain ⟨hload, hw⟩ := hr n List.mem_cons_self
    have hstep := ih hl (w := w.candidate n) ((w.candidate_apart n).trans ha) fun m hm => by
      rw [State.load_of_others (w.candidate_others n) fun he => hn (he ▸ hm)]
      exact hr m (List.mem_cons_of_mem _ hm)
    refine ⟨hstep.1, hstep.2.trans ?_⟩
    rw [State.reliefOf_cons]
    by_cases hd : w.deficit = true
    · rw [Walk.candidate_draw hd (by rw [hload]; exact hw), hload, State.cutPossible_of_apart ha]
      split <;> omega
    · rw [Walk.candidate_of_no_deficit hd]
      rw [Walk.deficit_iff, hallow w ha] at hd
      split <;> omega

/-- The relief before a candidate is that of the stretch before it in the shed order. -/
theorem State.reliefBefore_eq (h : s.listsInOrder) {pre post : List Channel} (ho : s.shedOrder = pre ++ n :: post) :
    s.reliefOf pre = s.reliefBefore s.engine.allowance n := by
  obtain ⟨hnodup, hmem, hsorted⟩ := State.shedOrder_sorted h
  rw [ho] at hnodup hsorted
  obtain ⟨-, htail, hbefore⟩ := List.pairwise_append.mp hsorted
  obtain ⟨hafter, -⟩ := List.pairwise_cons.mp htail
  have hasymm : ∀ a b, s.shedsBefore a b = true → ¬s.shedsBefore b a = true := fun a b hab hba => by
    simp only [State.shedsBefore, Bool.or_eq_true, Bool.and_eq_true, decide_eq_true_eq, beq_iff_eq] at hab hba
    omega
  have hpre : ∀ m, m ∈ pre ↔ s.isCandidate m = true ∧ s.shedsBefore m n = true := fun m => by
    rw [← hmem m, ho]
    refine ⟨fun hm => ⟨List.mem_append_left _ hm, hbefore m hm n List.mem_cons_self⟩, fun ⟨hm, hb⟩ => ?_⟩
    obtain hm | hm := List.mem_append.mp hm
    · exact hm
    · obtain rfl | hm := List.mem_cons.mp hm
      · exact absurd hb (hasymm _ _ hb)
      · exact absurd hb (hasymm _ _ (hafter m hm))
  refine sum_map_of_mem (fun m => (s.load m).drawMa) ((List.nodup_append.mp hnodup).1.filter _)
    (channels_nodup.filter _) fun m => ?_
  rw [List.mem_filter, hpre, mem_channels_filter, ← Bool.and_eq_true, ← Bool.and_eq_true]
  exact Iff.rfl

/-! ## A candidate's fate (R111 to R115) -/

/-- The walk of an evaluation makes of each candidate what R112 to R114 say. -/
theorem State.load_walk (h : s.listsInOrder) (hn : s.isCandidate n = true) (p : Int) :
    let w := (Walk.deficitWalk ⟨s, p, false⟩).part
    let reached := s.walkFree s.engine.allowance
      ∧ (s.engine.allowance : Int) < p - (s.reliefBefore s.engine.allowance n : Nat)
    (reached → s.cutNow s.engine.allowance n = true → w.load n = (s.load n).cutStandby s.forceOff.level true)
      ∧ (reached → s.cutNow s.engine.allowance n = false →
          w.load n = (s.load n).deferredByWalk (s.held (s.load n).holdLine) s.engine.allowance)
      ∧ (¬reached → w.load n = s.load n) := by
  intro w reached
  have hw : (s.load n).walkable = true := hn
  obtain ⟨hnodup, hmem, -⟩ := State.shedOrder_sorted h
  obtain ⟨pre, post, ho⟩ := List.append_of_mem ((hmem n).mpr hn)
  have hrelief := State.reliefBefore_eq h ho
  rw [ho] at hnodup
  obtain ⟨hpre, htail, hdisjoint⟩ := List.nodup_append.mp hnodup
  obtain ⟨hpost, -⟩ := List.nodup_cons.mp htail
  have hnpre : n ∉ pre := fun hm => hdisjoint n hm n List.mem_cons_self rfl
  have hfold := Walk.deficit_foldl (s := s) hpre (w := ⟨s, p, false⟩) rfl fun m hm =>
    ⟨rfl, (hmem m).mp (by rw [ho]; exact List.mem_append_left _ hm)⟩
  set v := pre.foldl Walk.candidate ⟨s, p, false⟩ with hv
  rw [hrelief] at hfold
  obtain ⟨hvapart, hvdeficit⟩ := hfold
  have hvload : v.part.load n = s.load n := Walk.load_foldl_of_not_mem Walk.candidate_others hnpre _
  have hfree : (Walk.taken ⟨s, p, false⟩ = true ↔ s.walkFree s.engine.allowance ∧ (s.engine.allowance : Int) < p) := by
    have hstarting : s.anyStarting = false ↔ ∀ m, (s.load m).state ≠ .starting := by
      rw [← Bool.not_eq_true, State.anyStarting_iff, not_exists]
    simp only [Walk.taken, Bool.and_eq_true, Bool.or_eq_true, Walk.deficit_iff, beq_iff_eq, Bool.not_eq_true', hstarting,
      State.walkFree]
    exact and_comm
  have hpass : Walk.taken ⟨s, p, false⟩ = true → w.load n = (v.candidate n).part.load n := fun ht => by
    show (Walk.deficitWalk ⟨s, p, false⟩).part.load n = _
    rw [Walk.deficitWalk, if_pos ht, ho, List.foldl_append, List.foldl_cons]
    exact Walk.load_foldl_of_not_mem Walk.candidate_others hpost _
  have hact : reached → w.load n = (if v.part.cutPossible (v.part.load n) then v.makeCut n
      else { v with part := v.part.deferBudget n }).part.load n := fun ⟨hf, hd⟩ => by
    rw [hpass (hfree.mpr ⟨hf, by omega⟩), Walk.candidate_of_deficit (hvdeficit.mpr hd) (by rw [hvload]; exact hw)]
  have hcutnow : v.part.cutPossible (v.part.load n) = s.cutNow s.engine.allowance n := by
    rw [State.cutPossible_of_apart hvapart, hvload]
    rfl
  refine ⟨fun hr hc => ?_, fun hr hc => ?_, fun hr => ?_⟩
  · rw [hact hr, hcutnow, if_pos hc]
    have hon : (v.part.load n).on = true := by rw [hvload]; exact Load.walkable_on hw
    refine (State.load_budgetCut_self hon).trans ?_
    rw [hvload, State.forceOff_of_apart hvapart]
  · have hallow : v.part.engine.allowance = s.engine.allowance := State.allowance_of_apart hvapart
    have hholds : v.part.holds = s.holds := State.holds_of_apart hvapart
    rw [hact hr, hcutnow, if_neg (by simp [hc])]
    show (v.part.deferBudget n).load n = _
    rw [State.deferBudget, State.load_modify_self, hvload]
    have hmin : (decide ((s.load n).dwell < (s.load n).minOn) && v.part.engine.allowance != 0)
        = decide ((s.load n).dwell < (s.load n).minOn ∧ s.engine.allowance ≠ 0) := by
      rw [hallow]
      exact Bool.eq_iff_iff.mpr (by simp)
    rw [hmin]
    simp only [State.held, hholds]
    rfl
  · by_cases ht : Walk.taken ⟨s, p, false⟩ = true
    · rw [hpass ht, Walk.candidate_of_no_deficit, hvload]
      rw [hvdeficit]
      exact fun hd => hr ⟨(hfree.mp ht).1, hd⟩
    · show (Walk.deficitWalk ⟨s, p, false⟩).part.load n = _
      rw [Walk.deficitWalk, if_neg ht]

theorem State.evaluate_allowance_eq (s : State) : s.evaluate.engine.allowance = s.formAllowance.engine.allowance :=
  State.allowance_of_apart s.evaluate_apart

/-- What a BUDGET deferral with no min-on wait and a hold wait is to the depleted stage (R116). -/
theorem Walk.depletedRecord_of_held {w : Walk} (hh : (w.part.load n).waitHold = true)
    (hm : (w.part.load n).waitMinOn = false) : (w.depletedRecord n).part.load n = w.part.load n := by
  simp only [Walk.depletedRecord, hh, if_true]
  split
  · show (w.part.modify n _).load n = _
    rw [State.load_modify_self, ← hm]
  · rfl

/-- Settles O25: the fate of each candidate in the walk, which the later stages of the evaluation leave. -/
theorem walkActsExactlyOnTheDeficit : Obligations.WalkActsExactlyOnTheDeficit := by
  intro s t n hp hd hready h he hn
  let u := s.workTaken .evaluation
  have hu : u.listsInOrder := State.inOrder_of_same h rfl rfl
  obtain rfl : u.evaluate = t := Host.Outcome.next.inj ((exec_evaluation_of_due hp hd hready).symm.trans he)
  have ha : u.formAllowance.listsInOrder := State.listsInOrder_of_loads hu rfl rfl
  obtain ⟨hcut, hdefer, hleft⟩ := State.load_walk ha hn u.formAllowance.sense.pub.filtered
  rw [u.evaluate_allowance_eq]
  intro a reached
  have hw : (u.load n).walkable = true := hn
  have hon := Load.walkable_on hw
  refine ⟨fun hr hc => ?_, fun hr hc => ?_, fun hr => ?_⟩
  · refine State.evaluate_of_cut (s := u) hon (forced := u.forceOff.level) ?_
    exact (Walk.load_depletedStage_of_not (by rw [hcut hr hc]; nofun)).trans (hcut hr hc)
  · have hwalk := hdefer hr hc
    refine State.evaluate_load_of_closed ?_ rfl
    have hdepleted : u.walked.part.load n = (u.load n).deferredByWalk (u.held (u.load n).holdLine) a := by
      by_cases hzero : a = 0
      · have hheld : u.held (u.load n).holdLine = true := by
          have hc : s.cutNow a n = false := hc
          have hheld : s.held (s.load n).holdLine = true := by simpa [State.cutNow, hzero] using hc
          exact hheld
        unfold State.walked Walk.depletedStage
        split
        · refine Walk.load_foldl Walk.depletedRecord_others (fun v hv => ?_) _ hwalk
          refine (Walk.depletedRecord_of_held ?_ ?_).trans hv
          · rw [hv]
            exact hheld
          · rw [hv]
            simp [hzero]
        · exact hwalk
      · unfold State.walked Walk.depletedStage
        rw [if_neg]
        · exact hwalk
        · have hallow : (Walk.deficitWalk ⟨u.formAllowance, u.formAllowance.sense.pub.filtered, false⟩).part.engine.allowance
              = a := State.allowance_of_apart (Walk.Reach.start u.formAllowance _).deficitWalk.apart
          rw [hallow]
          simpa using hzero
    rw [State.beforeLevel_load_of_not_standby (by rw [hdepleted]; nofun), hdepleted]
    rfl
  · have hsame : u.walked.part.load n = u.load n := by
      have hwalk := hleft hr
      refine (Walk.load_depletedStage_of_not ?_).trans hwalk
      rw [hwalk]
      rintro ⟨hs, -⟩
      have : (u.load n).state = .deferred := hs
      simp [Load.walkable, this] at hw
    refine State.evaluate_sameButWindow ?_
    rw [State.beforeLevel_load_of_not_standby, hsame]
    · rfl
    · rw [hsame]
      intro hs
      simp [Load.on, hs] at hon

end

end Sys2Proof.Machine
end

section
/-! PROOFS. The evaluation of one record: the essentials that it leaves, the depleted stage, the restore, the reasons and the
counters (R107 to R123). -/

namespace Sys2Proof.Machine

section
variable {s t : State} {n : Channel}

/-- A due evaluation taken in READY is made on the part without its piece of the second tick. -/
theorem evaluation_as (hp : s.powered = true) (hd : .evaluation ∈ s.due) (hready : s.startup.ready = true)
    (he : exec .evaluation s = .next t) : (s.workTaken .evaluation).evaluate = t :=
  Host.Outcome.next.inj ((exec_evaluation_of_due hp hd hready).symm.trans he)

theorem State.workTaken_inOrder (h : s.listsInOrder) (w : TickWork) : (s.workTaken w).listsInOrder :=
  State.inOrder_of_same h rfl rfl

/-- The walk and the depleted stage leave a record that neither acts on (R115). -/
theorem State.load_walked (hw : ¬(s.load n).walkable = true)
    (hb : ¬((s.load n).state = .deferred ∧ (s.load n).reason = .deferred .budget)) : s.walked.part.load n = s.load n := by
  have hwalk : (Walk.deficitWalk ⟨s.formAllowance, s.formAllowance.sense.pub.filtered, false⟩).part.load n = s.load n :=
    Walk.load_deficitWalk_of_not_walkable (w := ⟨s.formAllowance, _, false⟩) hw
  exact (Walk.load_depletedStage_of_not (by rwa [hwalk])).trans hwalk

/-- What an evaluation leaves of such a record outside STANDBY. -/
theorem State.evaluate_untouched (hw : ¬(s.load n).walkable = true)
    (hb : ¬((s.load n).state = .deferred ∧ (s.load n).reason = .deferred .budget)) (hs : (s.load n).state ≠ .standby) :
    (s.load n).sameButWindow n s.evaluate := by
  have hwalked := State.load_walked hw hb
  exact State.evaluate_sameButWindow ((State.beforeLevel_load_of_not_standby (by rwa [hwalked])).trans hwalked)

/-- A record that is essential, DEFERRED for a request OFF, or in no list is neither a candidate nor a BUDGET deferral. -/
theorem Load.lawful.spared {r : Load} (h : r.lawful)
    (hr : (r.on = true ∧ (r.cls = 0 ∨ r.reason = .deferred .requestOff)) ∨ r.state ∈ [.vacant, .idle, .tripped, .locked]) :
    ¬r.walkable = true ∧ ¬(r.state = .deferred ∧ r.reason = .deferred .budget) ∧ r.state ≠ .standby := by
  obtain ⟨hon, hcls | hoff⟩ | hstate := hr
  · obtain ⟨-, -, -, -, -, hessential, -⟩ := h
    refine ⟨fun hw => (Load.walkable_iff.mp hw).2 hcls, fun ⟨_, hb⟩ => hessential hb hcls, fun hs => ?_⟩
    simp [Load.on, hs] at hon
  · refine ⟨fun hw => h.walkable_reason hw _ hoff, fun ⟨_, hb⟩ => ?_, fun hs => ?_⟩
    · rw [hoff] at hb
      cases hb
    · simp [Load.on, hs] at hon
  · refine ⟨fun hw => ?_, fun ⟨hs, _⟩ => ?_, fun hs => ?_⟩
    · obtain ⟨hs | hs, -⟩ := Load.walkable_iff.mp hw <;> simp [hs] at hstate
    · simp [hs] at hstate
    · simp [hs] at hstate

/-- Settles O26: such a record is no candidate and no BUDGET deferral, so no stage acts on it. -/
theorem evaluationLeavesEssentialsOn : Obligations.EvaluationLeavesEssentialsOn := by
  intro s t n hp hd hready h he hr
  rw [← evaluation_as hp hd hready he]
  obtain ⟨hw, hb, hs⟩ := (h n).spared hr
  exact State.evaluate_untouched (s := s.workTaken .evaluation) hw hb hs

/-! ## The depleted stage (R116, R117) -/

/-- At A = 0 a BUDGET deferral that waits on nothing but its min-on is cut. -/
theorem Walk.depletedRecord_of_free {w : Walk} (hs : (w.part.load n).state = .deferred)
    (hr : (w.part.load n).reason = .deferred .budget) (hh : (w.part.load n).waitHold = false) :
    (w.depletedRecord n).part.load n = (w.part.load n).cutStandby w.part.forceOff.level true := by
  simp only [Walk.depletedRecord, hs, hr, hh, beq_self_eq_true, Bool.and_self, if_true, Bool.false_eq_true, if_false]
  have hself := w.part.load_modify_self n fun r => { r with waitMinOn := false }
  have hon : ((w.part.modify n fun r => { r with waitMinOn := false }).load n).on = true := by
    rw [hself]
    exact Load.on_of_deferred hs
  refine (State.load_budgetCut_self hon).trans ?_
  rw [hself]
  rfl

/-- At A = 0 one that waits on its line waits on it alone. -/
theorem Walk.depletedRecord_of_holding {w : Walk} (hs : (w.part.load n).state = .deferred)
    (hr : (w.part.load n).reason = .deferred .budget) (hh : (w.part.load n).waitHold = true) :
    (w.depletedRecord n).part.load n = { w.part.load n with waitMinOn := false } := by
  have hturn : (w.depletedRecord n).part = w.part.modify n fun r => { r with waitMinOn := false } := by
    simp [Walk.depletedRecord, hs, hr, hh]
  rw [hturn]
  exact w.part.load_modify_self n _

/-- What the depleted stage makes of a record is what its own turn makes of it. -/
theorem Walk.load_depletedStage {w : Walk} (h : w.part.listsInOrder) (hon : (w.part.load n).on = true)
    (ha : w.part.engine.allowance = 0) : ∃ v : Walk, v.part.load n = w.part.load n ∧ v.part.apart = w.part.apart
      ∧ w.depletedStage.part.load n = (v.depletedRecord n).part.load n := by
  obtain ⟨-, hp⟩ := State.listsInOrder_iff.mp h
  obtain ⟨honrun, -, hnodup, -⟩ := hp.lists
  obtain ⟨pre, post, ho⟩ := List.append_of_mem ((honrun n).mpr hon)
  rw [ho] at hnodup
  obtain ⟨-, htail, hdisjoint⟩ := List.nodup_append.mp hnodup
  obtain ⟨hpost, -⟩ := List.nodup_cons.mp htail
  have hpre : n ∉ pre := fun hm => hdisjoint n hm n List.mem_cons_self rfl
  refine ⟨pre.foldl Walk.depletedRecord w, Walk.load_foldl_of_not_mem Walk.depletedRecord_others hpre w,
    foldl_keeps (fun w : Walk => w.part.apart) Walk.depletedRecord_apart pre w, ?_⟩
  rw [Walk.depletedStage, if_pos (by simp [ha]), ho, List.foldl_append, List.foldl_cons]
  exact Walk.load_foldl_of_not_mem Walk.depletedRecord_others hpost _

/-- Settles O27: the walk leaves a BUDGET deferral to the depleted stage, and the later stages leave what that makes of it. -/
theorem depletedStageDropsMinOnWaits : Obligations.DepletedStageDropsMinOnWaits := by
  intro s t n hp hd hready h he hreason
  rw [← evaluation_as hp hd hready he]
  have hu := State.workTaken_inOrder h .evaluation
  generalize hus : s.workTaken .evaluation = u at hu ⊢
  have hload : s.load n = u.load n := hus ▸ rfl
  rw [hload] at hreason ⊢
  rw [u.evaluate_allowance_eq]
  obtain ⟨hr, -⟩ := State.listsInOrder_iff.mp hu
  have hdeferred : (u.load n).state = .deferred := by
    obtain ⟨-, -, ⟨-, hdeferred⟩, -⟩ := hr n
    exact hdeferred.mpr ⟨.budget, by simp, hreason⟩
  have hon := Load.on_of_deferred hdeferred
  have hclosed := (hr n).deferred_window hdeferred
  let w := Walk.deficitWalk ⟨u.formAllowance, u.formAllowance.sense.pub.filtered, false⟩
  have hreach : w.Reach u.formAllowance u.formAllowance.sense.pub.filtered := (Walk.Reach.start _ _).deficitWalk
  have hwalk : w.part.load n = u.load n :=
    Walk.load_deficitWalk_of_not_walkable (w := ⟨u.formAllowance, _, false⟩) fun hw =>
      (hr n).walkable_reason hw _ hreason
  have hallow : w.part.engine.allowance = u.formAllowance.engine.allowance := State.allowance_of_apart hreach.apart
  have horder : w.part.listsInOrder := Walk.listsInOrder_deficitWalk
    (w := ⟨u.formAllowance, u.formAllowance.sense.pub.filtered, false⟩) (State.listsInOrder_of_loads hu rfl rfl)
  have hstage := Walk.load_depletedStage (w := w) (n := n) horder (by rw [hwalk]; exact hon)
  have hwalked : u.walked = w.depletedStage := rfl
  refine ⟨fun ha => ?_, fun ha hwait => ?_, fun ha hwait => ?_⟩
  · have hsame : u.walked.part.load n = u.load n := by
      rw [hwalked, Walk.depletedStage, if_neg (by rw [hallow]; simpa using ha), hwalk]
    refine State.evaluate_load_of_closed ?_ hclosed
    rw [State.beforeLevel_load_of_not_standby (by rw [hsame, hdeferred]; nofun), hsame]
  · obtain ⟨v, hv, -, hturn⟩ := hstage (hallow.trans ha)
    rw [hwalk] at hv
    rw [Walk.depletedRecord_of_holding (by rw [hv, hdeferred]) (by rw [hv, hreason]) (by rw [hv, hwait]), hv] at hturn
    refine State.evaluate_load_of_closed ?_ hclosed
    rw [State.beforeLevel_load_of_not_standby (by rw [hwalked, hturn, hdeferred]; nofun), hwalked, hturn]
  · obtain ⟨v, hv, -, hturn⟩ := hstage (hallow.trans ha)
    rw [hwalk] at hv
    rw [Walk.depletedRecord_of_free (by rw [hv, hdeferred]) (by rw [hv, hreason]) (by rw [hv, hwait]), hv] at hturn
    exact State.evaluate_of_cut hon hturn

/-! ## The restore (R118 to R120) -/

/-- Record n is the one that an evaluation of s restores (R90, R118 to R120). -/
def State.Restores (s : State) (n : Channel) : Prop :=
  s.engine.standbyList.find? s.mayRestore = some n ∧ s.budget.marginMa ≤ s.formAllowance.engine.allowance
    ∧ s.sense.pub.filtered + ((s.load n).drawMa : Nat) ≤ (s.formAllowance.engine.allowance : Int) - s.budget.marginMa
    ∧ (∀ m : Channel, (s.load m).state ≠ .starting) ∧ (∀ m : Channel, (s.load m).reason ≠ .deferred .budget)
    ∧ s.budget.spacing ≤ s.engine.spacing ∧ s.engine.exhausted = false

theorem Walk.depletedStage_of_none {w : Walk} (h : ∀ m, (w.part.load m).reason ≠ .deferred .budget) :
    w.depletedStage = w := by
  unfold Walk.depletedStage
  split
  · have hfold : ∀ l : List Channel, l.foldl Walk.depletedRecord w = w := fun l => by
      induction l with
      | nil => rfl
      | cons m l ih => rw [List.foldl_cons, Walk.depletedRecord_of_not fun ⟨_, hr⟩ => h m hr, ih]
    exact hfold _
  · rfl

theorem State.restoreCandidate_eq (s : State) : s.restoreCandidate = s.engine.standbyList.find? s.mayRestore := by
  unfold State.restoreCandidate
  congr 1
  funext m
  simp only [State.eligible, State.mayRestore, Bool.and_assoc]

/-- A record restored: there was nothing to cut, and the walk did nothing. -/
theorem State.Restores.walked (h : s.Restores n) : s.walked = ⟨s.formAllowance, s.sense.pub.filtered, false⟩ := by
  obtain ⟨-, hmargin, hfits, -, hbudget, -⟩ := h
  have hdeficit : ¬Walk.deficit ⟨s.formAllowance, s.sense.pub.filtered, false⟩ = true := by
    rw [Walk.deficit_iff]
    show ¬((s.formAllowance.engine.allowance : Int) < s.sense.pub.filtered)
    omega
  have hwalk : Walk.deficitWalk ⟨s.formAllowance, s.sense.pub.filtered, false⟩
      = ⟨s.formAllowance, s.sense.pub.filtered, false⟩ := by
    rw [Walk.deficitWalk, if_neg]
    simp [Walk.taken, hdeficit]
  show (Walk.deficitWalk ⟨s.formAllowance, s.sense.pub.filtered, false⟩).depletedStage = _
  rw [hwalk]
  exact Walk.depletedStage_of_none hbudget

theorem State.Restores.restore (h : s.Restores n) : s.walked.restore = s.formAllowance.start n := by
  have hw := h.walked
  obtain ⟨hfind, hmargin, hfits, hstarting, hbudget, hspacing, -⟩ := h
  have hcandidate : s.walked.part.restoreCandidate = some n := by
    rw [hw, State.restoreCandidate_eq]
    exact hfind
  have hfit : s.walked.fits n = true := by
    rw [hw]
    exact Walk.fits_iff.mpr ⟨hmargin, hfits⟩
  have hfree : s.walked.blocked = false := by
    rw [hw]
    exact Walk.blocked_iff.mpr ⟨rfl, fun m ⟨_, hr⟩ => hbudget m hr, hstarting, hspacing⟩
  simp only [Walk.restore, hcandidate, hfit, hfree, Bool.not_false, Bool.and_self, if_true]
  rw [hw]

/-- The record restored stands in STANDBY. -/
theorem State.Restores.standby (h : s.Restores n) (hs : s.listsInOrder) : (s.load n).state = .standby := by
  obtain ⟨-, hp⟩ := State.listsInOrder_iff.mp hs
  obtain ⟨-, hstandby, -⟩ := hp.lists
  exact (hstandby n).mp (List.mem_of_find?_eq_some h.1)

/-- A stamp is left for its start (R90). -/
theorem State.Restores.stampLeft (h : s.Restores n) : s.engine.exhausted = false := by
  obtain ⟨-, -, -, -, -, -, hx⟩ := h
  exact hx

/-- Where no record is restored, E5 does nothing. -/
theorem State.restore_of_none (h : s.listsInOrder) (hn : ∀ m, ¬s.Restores m) : s.walked.restore = s.walked.part := by
  obtain ⟨hr, -⟩ | ⟨m, hr, hcandidate, hfit, hfree⟩ := s.walked.restore_cases
  · exact hr
  · rw [hr]
    refine State.start_refused _ fun ⟨hs, hx⟩ => hn m ?_
    have hreach := s.walked_reach
    obtain ⟨hcut, hbudget, hstarting, hspacing⟩ := Walk.blocked_iff.mp hfree
    obtain ⟨hrecords, -⟩ := State.listsInOrder_iff.mp (State.walked_inOrder h)
    have hbudget' : ∀ m, (s.walked.part.load m).reason ≠ .deferred .budget := fun k hk => by
      obtain ⟨-, -, ⟨-, hdeferred⟩, -⟩ := hrecords k
      exact hbudget k ⟨hdeferred.mpr ⟨.budget, by simp, hk⟩, hk⟩
    obtain ⟨hload, hengine, hdraw⟩ := hreach.untouched hcut hbudget'
    have hsload : ∀ k, s.walked.part.load k = s.load k := hload
    obtain ⟨hmargin, hfits⟩ := Walk.fits_iff.mp hfit
    have hbudgetEq : s.walked.part.budget = s.budget := State.budget_of_apart (s := s.formAllowance) hreach.apart
    have hforce : s.walked.part.forceOff = s.forceOff := State.forceOff_of_apart (s := s.formAllowance) hreach.apart
    rw [hengine, hbudgetEq] at hmargin hfits
    rw [hdraw, hsload] at hfits
    rw [hengine, hbudgetEq] at hspacing
    rw [hengine] at hx
    rw [State.restoreCandidate_eq, hengine] at hcandidate
    have hmay : s.walked.part.mayRestore = s.mayRestore := by
      funext k
      simp only [State.mayRestore, hsload, hforce]
    rw [hmay] at hcandidate
    exact ⟨hcandidate, hmargin, hfits, fun k hk => hstarting k (by rw [hsload, hk]),
      fun k hk => hbudget' k (by rw [hsload, hk]), hspacing, hx⟩

/-! ## From the restore to the end of the evaluation -/

theorem State.outputs_of_on {a b : State} (h : ∀ m, (b.load m).on = (a.load m).on) : b.outputs = a.outputs := by
  simp only [State.outputs, h]

theorem State.beforeLevel_load_standby (h : (s.walked.restore.load n).state = .standby) :
    s.beforeLevel.load n = { s.walked.restore.load n with reason := .standby (s.walked.restore.refreshedReason
      s.walked.part.restoreCandidate (s.walked.part.restoreCandidate.any s.walked.fits) n) } := by
  rw [s.beforeLevel_eq, State.load_refreshReasons, if_pos h]

theorem State.beforeLevel_load_other (h : (s.walked.restore.load n).state ≠ .standby) :
    s.beforeLevel.load n = s.walked.restore.load n := by
  rw [s.beforeLevel_eq, State.load_refreshReasons, if_neg h]

/-- What the stages after the restore leave of each record. -/
theorem State.evaluate_load_keeps (s : State) (m : Channel) :
    (s.evaluate.load m).state = (s.walked.restore.load m).state ∧ (s.evaluate.load m).on = (s.walked.restore.load m).on
      ∧ (s.evaluate.load m).cls = (s.walked.restore.load m).cls
      ∧ (s.evaluate.load m).dwell = (s.walked.restore.load m).dwell
      ∧ (s.evaluate.load m).minOff = (s.walked.restore.load m).minOff
      ∧ (s.evaluate.load m).drawMa = (s.walked.restore.load m).drawMa := by
  have hlater : ∀ r : Load, s.beforeLevel.load m = r → (s.evaluate.load m).state = r.state ∧ (s.evaluate.load m).on = r.on
      ∧ (s.evaluate.load m).cls = r.cls ∧ (s.evaluate.load m).dwell = r.dwell ∧ (s.evaluate.load m).minOff = r.minOff
      ∧ (s.evaluate.load m).drawMa = r.drawMa := fun r hr => by
    rw [State.evaluate_sameButWindow hr]
    exact ⟨rfl, rfl, rfl, rfl, rfl, rfl⟩
  by_cases h : (s.walked.restore.load m).state = .standby
  · have hkept := hlater _ (State.beforeLevel_load_standby h)
    exact hkept
  · exact hlater _ (State.beforeLevel_load_other h)

theorem State.evaluate_outputs (s : State) : s.evaluate.outputs = s.beforeLevel.outputs := by
  rw [s.evaluate_eq, State.sweepWindows_outputs]
  exact State.outputs_of_on fun m => congrArg Load.on (s.beforeLevel.load_closed m)

theorem State.beforeLevel_outputs (s : State) : s.beforeLevel.outputs = s.walked.restore.outputs := by
  refine State.outputs_of_on fun m => ?_
  by_cases h : (s.walked.restore.load m).state = .standby
  · rw [State.beforeLevel_load_standby h]
    rfl
  · rw [State.beforeLevel_load_other h]

/-- The engine that an evaluation leaves (R121, R122, R125). -/
theorem State.evaluate_engine (s : State) : s.evaluate.engine = { s.walked.restore.engine with
    level := s.evaluate.engine.level, spacing := min (s.walked.restore.engine.spacing + 1) 255
    holdOff := s.walked.restore.engine.holdOff - 1 } := by
  have hbefore : s.beforeLevel.engine = s.walked.restore.engine := rfl
  rw [s.evaluate_eq, State.sweepWindows_engine]
  simp only [State.close, State.setLevel_engine, hbefore]

theorem State.formAllowance_inOrder (h : s.listsInOrder) : s.formAllowance.listsInOrder :=
  State.listsInOrder_of_loads h rfl rfl

/-- A record that no restore starts keeps to STANDBY through the evaluation. -/
theorem State.evaluate_stays (h : s.listsInOrder) (hs : (s.load n).state = .standby)
    (hv : s.walked.restore.load n = s.load n) : (s.evaluate.load n).state = .standby
      ∧ n ∈ s.evaluate.engine.standbyList
      ∧ ({ s.load n with reason := (s.evaluate.load n).reason }).sameButWindow n s.evaluate := by
  have hbefore := State.beforeLevel_load_standby (s := s) (n := n) (by rw [hv]; exact hs)
  rw [hv] at hbefore
  have hsame := State.evaluate_sameButWindow hbefore
  have hstate : (s.evaluate.load n).state = .standby := by rw [hsame]; exact hs
  obtain ⟨-, hp⟩ := State.listsInOrder_iff.mp (State.listsInOrder_evaluate h)
  obtain ⟨-, hstandby, -⟩ := hp.lists
  refine ⟨hstate, (hstandby n).mpr hstate, ?_⟩
  have hreason : (s.evaluate.load n).reason = _ := congrArg Load.reason hsame
  rw [hreason]
  exact hsame

/-- The walk leaves a record in STANDBY. -/
theorem State.load_walked_standby (hs : (s.load n).state = .standby) : s.walked.part.load n = s.load n :=
  State.load_walked (fun hw => by obtain ⟨h | h, -⟩ := Load.walkable_iff.mp hw <;> simp [hs] at h)
    fun ⟨hd, _⟩ => by simp [hs] at hd

/-- The record restored, at the end of the evaluation (R98, R120). -/
theorem State.Restores.load (h : s.Restores n) (hs : s.listsInOrder) :
    s.evaluate.load n = (s.load n).startsNow s.engine.seq s s.evaluate := by
  have hstandby : (s.formAllowance.load n).state = .standby := h.standby hs
  have hrestore := h.restore
  have hx : s.formAllowance.engine.exhausted = false := h.stampLeft
  have hstart := s.formAllowance.load_start hstandby hx n
  have hsame : s.formAllowance.load n = s.load n := rfl
  rw [if_pos rfl, hsame] at hstart
  have hbefore : s.beforeLevel.load n = (s.formAllowance.start n).load n := by
    rw [State.beforeLevel_load_other, hrestore]
    rw [hrestore, hstart]
    nofun
  have hout : s.evaluate.outputs = s.formAllowance.linesAfterStart n := by
    rw [s.evaluate_outputs, s.beforeLevel_outputs, hrestore, State.start_outputs hstandby hx]
  rw [s.evaluate_eq] at hout ⊢
  rw [State.load_sweepWindows, s.beforeLevel.load_closed, hbefore, hstart]
  rw [State.sweepWindows_outputs] at hout
  simp only [Load.startsNow, Load.started, State.sweepWindows_outputs, hout]
  split
  · rw [Window.swept_of_lines]
    rfl
  · rw [Window.swept_closed]
    rfl

theorem State.Restores.engine (h : s.Restores n) (hs : s.listsInOrder) :
    s.walked.restore.engine = { s.formAllowance.engine.stamped with
      spacing := 0, runList := s.engine.runList ++ [n], standbyList := s.engine.standbyList.erase n } := by
  rw [h.restore]
  exact State.engine_start (s := s.formAllowance) (h.standby hs) h.stampLeft

/-- A restore of another record leaves this one. -/
theorem State.Restores.load_other {k : Channel} (h : s.Restores k) (hn : n ≠ k) :
    s.walked.restore.load n = s.load n := by
  rw [h.restore]
  exact State.load_of_others (s.formAllowance.start_others k) hn

theorem State.Restores.unique {k : Channel} (h : s.Restores k) (hn : s.Restores n) : k = n :=
  Option.some.inj (h.1.symm.trans hn.1)

/-- An evaluation started a record exactly where one is restored. -/
theorem State.restores_iff (h : s.listsInOrder) : (∃ k, s.Restores k) ↔
    ∃ m : Channel, (s.load m).state = .standby ∧ (s.evaluate.load m).state = .starting := by
  refine ⟨fun ⟨k, hk⟩ => ⟨k, hk.standby h, by rw [hk.load h]⟩, fun ⟨m, hs, ht⟩ => ?_⟩
  by_contra hnone
  obtain ⟨hstate, -⟩ := State.evaluate_stays h hs (by
    rw [State.restore_of_none h fun k hk => hnone ⟨k, hk⟩]
    exact State.load_walked_standby hs)
  rw [hstate] at ht
  cases ht

/-- Settles O28: the record that R118 to R120 name is started, and every other in STANDBY stays there. -/
theorem restoreStartsTheCandidateThatFits : Obligations.RestoreStartsTheCandidateThatFits := by
  intro s t n hp hd hready h he hstandby
  rw [← evaluation_as hp hd hready he]
  have hu := State.workTaken_inOrder h .evaluation
  generalize hus : s.workTaken .evaluation = u at hu ⊢
  rw [u.evaluate_allowance_eq]
  intro a starts
  have hstarts : starts ↔ u.Restores n := by
    subst hus
    exact Iff.rfl
  have hload : s.load n = u.load n := hus ▸ rfl
  have hengine : s.engine = u.engine := hus ▸ rfl
  have hsense : s.sense = u.sense := hus ▸ rfl
  rw [hload] at hstandby ⊢
  rw [hstarts, hengine, hsense]
  refine ⟨fun hr => ⟨hr.load hu, ?_⟩, fun hr => State.evaluate_stays hu hstandby ?_⟩
  · have heng := u.evaluate_engine
    rw [hr.engine hu] at heng
    obtain ⟨-, hplaced⟩ := State.listsInOrder_iff.mp hu
    obtain ⟨-, -, -, hnodup⟩ := hplaced.lists
    rw [heng]
    exact ⟨rfl, hnodup.not_mem_erase⟩
  · by_cases hk : ∃ k, u.Restores k
    · obtain ⟨k, hk⟩ := hk
      exact hk.load_other fun hn => hr (hn ▸ hk)
    · rw [State.restore_of_none hu fun k h => hk ⟨k, h⟩]
      exact State.load_walked_standby hstandby

/-! ## The reasons (R123) -/

/-- An evaluation that restores no record turned off exactly the records that the walk and the depleted stage cut. -/
theorem State.evaluate_drawsLost (hn : s.walked.restore = s.walked.part) :
    s.drawsLost s.evaluate = s.drawsLost s.walked.part := by
  refine State.drawsLost_of_on fun m => ?_
  obtain ⟨-, hon, -⟩ := s.evaluate_load_keeps m
  rw [hon, hn]

/-- The records that may be restored are those that the evaluation saw, where it restored none. -/
theorem State.evaluate_candidate (hn : s.walked.restore = s.walked.part) :
    s.evaluate.engine.standbyList.find? s.evaluate.mayRestore = s.walked.part.restoreCandidate := by
  have hforce : s.evaluate.forceOff = s.walked.part.forceOff :=
    (State.forceOff_of_apart (s := s.formAllowance) s.evaluate_apart).trans
      (State.forceOff_of_apart (s := s.formAllowance) s.walked_reach.apart).symm
  have hmay : s.evaluate.mayRestore = s.walked.part.mayRestore := by
    funext m
    obtain ⟨-, -, hcls, hdwell, hoff, -⟩ := s.evaluate_load_keeps m
    rw [hn] at hcls hdwell hoff
    simp only [State.mayRestore, hforce, hcls, hdwell, hoff]
  rw [State.restoreCandidate_eq, hmay, s.evaluate_engine, hn]

/-- Settles O29: E6's table on the outcome of E5, whose test takes the draw that the cuts have lowered. -/
theorem evaluationRefreshesReasons : Obligations.EvaluationRefreshesReasons := by
  intro s t n hp hd hready h he hstandby cutDraw started
  have hu := State.workTaken_inOrder h .evaluation
  obtain rfl := evaluation_as hp hd hready he
  have hcutDraw : cutDraw = (s.workTaken .evaluation).drawsLost (s.workTaken .evaluation).evaluate := rfl
  have hstarted : started ↔ ∃ k, (s.workTaken .evaluation).Restores k := (State.restores_iff hu).symm
  have hload : s.load n = (s.workTaken .evaluation).load n := rfl
  have hbudget : s.budget = (s.workTaken .evaluation).budget := rfl
  have hsense : s.sense = (s.workTaken .evaluation).sense := rfl
  rw [hcutDraw, hstarted, hload, hbudget, hsense]
  generalize s.workTaken .evaluation = u at hu hstandby ⊢
  obtain ⟨hstate, -, -, hdwell, hoff, -⟩ := u.evaluate_load_keeps n
  have hvstandby : (u.walked.restore.load n).state = .standby := hstate ▸ hstandby
  have hsame := State.evaluate_sameButWindow (State.beforeLevel_load_standby hvstandby)
  have hreason : (u.evaluate.load n).reason = .standby (u.walked.restore.refreshedReason
      u.walked.part.restoreCandidate (u.walked.part.restoreCandidate.any u.walked.fits) n) := by
    rw [hsame]
  have hforce : u.walked.restore.forceOff = u.evaluate.forceOff :=
    (State.forceOff_of_apart (s := u.formAllowance) ((Walk.restore_apart _).trans u.walked_reach.apart)).trans
      (State.forceOff_of_apart (s := u.formAllowance) u.evaluate_apart).symm
  rw [hreason, hdwell, hoff]
  simp only [State.refreshedReason, hforce]
  refine ⟨fun hf => by rw [if_pos hf], fun hf hmin => by rw [if_neg (by simp [hf]), if_pos hmin], fun hf hmin => ?_⟩
  rw [if_neg (by simp [hf]), if_neg (Nat.not_lt.mpr hmin)]
  by_cases hk : ∃ k, u.Restores k
  · refine ⟨fun ⟨hnone, _⟩ => absurd hk hnone, fun _ => ?_⟩
    obtain ⟨k, hk⟩ := hk
    have hcandidate : u.walked.part.restoreCandidate = some k := by
      rw [hk.walked, State.restoreCandidate_eq]
      exact hk.1
    rw [if_neg]
    rw [hcandidate]
    intro hkn
    obtain rfl := Option.some.inj hkn
    rw [hk.restore, State.load_start (s := u.formAllowance) (hk.standby hu) hk.stampLeft, if_pos rfl] at hvstandby
    cases hvstandby
  · have hnone := State.restore_of_none hu fun k h => hk ⟨k, h⟩
    rw [State.evaluate_candidate hnone, State.evaluate_drawsLost hnone]
    refine ⟨fun ⟨_, hcandidate⟩ => ?_, fun hnot => ?_⟩
    · rw [if_pos hcandidate, hcandidate]
      have hfits : u.walked.fits n = true ↔ _ := Walk.fits_iff
      have hallow : u.walked.part.engine.allowance = u.formAllowance.engine.allowance :=
        State.allowance_of_apart u.walked_reach.apart
      have hmargin : u.walked.part.budget = u.budget := State.budget_of_apart (s := u.formAllowance) u.walked_reach.apart
      rw [hallow, hmargin, u.walked_reach.draw, u.walked_reach.drawMa n] at hfits
      rw [u.evaluate_allowance_eq]
      refine ⟨?_, Iff.trans ?_ hfits⟩
      · cases u.walked.fits n <;> simp
      · cases hf : u.walked.fits n <;> simp [hf]
    · rw [if_neg fun hc => hnot ⟨hk, hc⟩]

/-! ## The counters and the flags (R121, R122, R126) -/

/-- An evaluation turned an output off exactly where the walk or the depleted stage cut it. -/
theorem State.evaluate_cut_iff (h : s.listsInOrder) : s.walked.cut = true ↔
    ∃ m, (s.load m).on = true ∧ (s.evaluate.load m).on = false := by
  have hcut : s.walked.cut = true ↔ ∃ m, (s.load m).on = true ∧ (s.walked.part.load m).on = false := s.walked_reach.cut
  refine hcut.trans (exists_congr fun m => and_congr_right fun hon => ?_)
  obtain ⟨-, heon, -⟩ := s.evaluate_load_keeps m
  rw [heon]
  by_cases hk : ∃ k, s.Restores k
  · obtain ⟨k, hk⟩ := hk
    have hmk : m ≠ k := by
      rintro rfl
      simp [Load.on, hk.standby h] at hon
    rw [hk.load_other hmk, hk.walked]
    exact Iff.rfl
  · rw [State.restore_of_none h fun k h => hk ⟨k, h⟩]

/-- DEPLETED is the one flag that the level stage can raise (R126). -/
theorem State.setLevel_flags : s.setLevel.port.flags
    = s.port.flags ||| (if s.levelNow = .depleted ∧ s.engine.level ≠ .depleted then 0x02 else 0x00) := by
  simp only [State.setLevel]
  by_cases h : s.levelNow = .depleted ∧ s.engine.level ≠ .depleted
  · rw [if_pos h, if_pos (by simpa using h)]
    rfl
  · rw [if_neg h, if_neg (by simpa using h)]
    simp

theorem State.evaluate_flags : s.evaluate.port.flags = s.port.flags ||| (if s.walked.cut then 0x01 else 0x00)
    ||| (if s.evaluate.engine.level = .depleted ∧ s.engine.level ≠ .depleted then 0x02 else 0x00) := by
  obtain ⟨hlevel, -⟩ := Prod.ext_iff.mp s.beforeLevel_depletion
  have hbefore : s.beforeLevel.port = s.walked.part.port := Walk.restore_port _
  have hflags : s.walked.part.port.flags = s.port.flags ||| _ := s.walked_reach.flags
  calc s.evaluate.port.flags
    _ = s.beforeLevel.setLevel.port.flags := rfl
    _ = _ := s.beforeLevel.setLevel_flags
    _ = _ := by
      rw [hbefore, hflags, s.evaluate_level]
      have hlevel : s.beforeLevel.engine.level = s.engine.level := hlevel
      rw [hlevel]

/-- A stamp is taken from the same counter whether or not the allowance is formed. -/
theorem State.stamped_formed : s.formAllowance.engine.stamped.seq = s.engine.stamped.seq
    ∧ s.formAllowance.engine.stamped.exhausted = s.engine.stamped.exhausted := by
  unfold Engine.stamped
  by_cases hs : s.engine.seq < 4294967295
  · rw [if_pos hs, if_pos (c := s.formAllowance.engine.seq < 4294967295) hs]
    exact ⟨rfl, rfl⟩
  · rw [if_neg hs, if_neg (c := s.formAllowance.engine.seq < 4294967295) hs]
    exact ⟨rfl, rfl⟩

/-- Settles O31: the close on what the walk and the restore leave of the counters. -/
theorem evaluationClosesTheCounters : Obligations.EvaluationClosesTheCounters := by
  intro s t hp hd hready h he started cut depleted
  have hu := State.workTaken_inOrder h .evaluation
  obtain rfl := evaluation_as hp hd hready he
  have hstarted : started ↔ ∃ k, (s.workTaken .evaluation).Restores k := (State.restores_iff hu).symm
  have hcut : cut ↔ (s.workTaken .evaluation).walked.cut = true := (State.evaluate_cut_iff hu).symm
  have hengine : s.engine = (s.workTaken .evaluation).engine := rfl
  have hbudget : s.budget = (s.workTaken .evaluation).budget := rfl
  have hport : s.port = (s.workTaken .evaluation).port := rfl
  have hdepleted : depleted ↔ (s.workTaken .evaluation).evaluate.engine.level = .depleted
    ∧ (s.workTaken .evaluation).engine.level ≠ .depleted := Iff.rfl
  simp only [hstarted, hcut, hengine, hbudget, hport, hdepleted]
  generalize s.workTaken .evaluation = u at hu ⊢
  have hclose := u.evaluate_engine
  have hwalked : u.walked.part.engine = _ := u.walked_reach.engine
  have hhold : ∀ held : Nat, u.walked.restore.engine.holdOff = held → u.evaluate.engine.holdOff = held - 1 :=
    fun held hheld => by rw [hclose, hheld]
  have hrestored : u.walked.restore.engine.holdOff = u.walked.part.engine.holdOff := by
    by_cases hk : ∃ k, u.Restores k
    · obtain ⟨k, hk⟩ := hk
      rw [hk.engine hu, hk.walked]
      unfold Engine.stamped
      split <;> rfl
    · rw [State.restore_of_none hu fun k h => hk ⟨k, h⟩]
  refine ⟨fun ⟨k, hk⟩ => ?_, fun hk => ?_, fun hc => hhold _ ?_, fun hc => hhold _ ?_, u.evaluate_flags⟩
  · rw [hk.engine hu] at hclose
    rw [hclose]
    exact ⟨rfl, u.stamped_formed⟩
  · rw [State.restore_of_none hu fun k h => hk ⟨k, h⟩, hwalked] at hclose
    rw [hclose]
    exact ⟨rfl, rfl, rfl⟩
  · rw [hrestored, hwalked]
    exact if_pos hc
  · rw [hrestored, hwalked]
    exact if_neg hc

end

end Sys2Proof.Machine
end

section
/-! PROOFS. The outputs: off in LOADING and under FORCE_OFF, and what they do to open learn windows (R120, R144, R147, R157,
R164). -/

namespace Sys2Proof.Machine

/-! ## LOADING (R157, R193) -/

/-- Every record is VACANT or IDLE. -/
def State.Dormant (s : State) : Prop := ∀ n : Channel, (s.load n).state = .vacant ∨ (s.load n).state = .idle

section
variable {s t : State}

theorem State.Dormant.off (h : s.Dormant) (n : Channel) : (s.load n).on = false := by
  obtain hs | hs := h n <;> simp [Load.on, hs]

theorem State.Dormant.of_loads (h : s.Dormant) (hl : t.loads = s.loads) : t.Dormant := by
  intro n
  rw [State.load, hl]
  exact h n

theorem State.Dormant.of_states (h : s.Dormant) (hs : ∀ n, (t.load n).state = (s.load n).state) : t.Dormant := fun n => by
  rw [hs]
  exact h n

theorem State.Dormant.sweepWindows (h : s.Dormant) : s.sweepWindows.Dormant :=
  h.of_states fun n => by rw [State.load_sweepWindows]

theorem State.Dormant.modify (h : s.Dormant) (n : Channel) {f : Load → Load} (hf : ∀ r : Load, r.state = .vacant ∨ r.state = .idle →
    (f r).state = r.state) : (s.modify n f).Dormant := by
  refine h.of_states fun m => ?_
  by_cases hm : m = n
  · rw [hm, s.load_modify_self, hf _ (h n)]
  · rw [s.load_modify_of_ne f hm]

theorem State.Dormant.mapLoads (h : s.Dormant) {f : Channel → Load → Load} (hf : ∀ n (r : Load), (f n r).state = r.state) :
    (s.mapLoads f).Dormant :=
  h.of_states fun n => by rw [State.load_mapLoads, hf]

theorem State.Dormant.foldl {α : Type} {f : State → α → State} (hf : ∀ (t : State) a, t.Dormant → (f t a).Dormant)
    (l : List α) (h : s.Dormant) : (l.foldl f s).Dormant := by
  induction l generalizing s with
  | nil => exact h
  | cons a l ih => exact ih (hf s a h)

theorem State.Dormant.essentialSweep (h : s.Dormant) : s.essentialSweep.Dormant :=
  .foldl (fun t n ht => by
    obtain hc | ⟨-, hs, -⟩ := t.essentialCheck_cases n
    · rwa [hc]
    · obtain h | h := ht n <;> simp [h] at hs) _ h

/-- No wait of a dormant record ends in a cut. -/
theorem State.Dormant.cutIfNoWait (h : s.Dormant) (n : Channel) : s.cutIfNoWait n = s := by
  obtain hs | hs := h n <;> simp [State.cutIfNoWait, hs]

theorem State.Dormant.endHoldWait (h : s.Dormant) (n : Channel) : (s.endHoldWait n).Dormant := by
  have hm := h.modify n (f := fun r => { r with waitHold := false, holdTimer := 0 }) fun _ _ => rfl
  rw [State.endHoldWait, hm.cutIfNoWait]
  exact hm

theorem State.Dormant.endMinOnWait (h : s.Dormant) (n : Channel) : (s.endMinOnWait n).Dormant := by
  have hm := h.modify n (f := fun r => { r with waitMinOn := false }) fun _ _ => rfl
  rw [State.endMinOnWait, hm.cutIfNoWait]
  exact hm

theorem State.Dormant.holdLimitTick (h : s.Dormant) (n : Channel) : (s.holdLimitTick n).Dormant := by
  simp only [State.holdLimitTick]
  have hraised : (s.raise .holdExpired).Dormant := h.of_loads rfl
  split
  · split
    · exact (hraised.endHoldWait n).sweepWindows
    · exact h.modify n fun _ _ => rfl
  · exact h

theorem State.Dormant.minOnCheck (h : s.Dormant) (n : Channel) : (s.minOnCheck n).Dormant := by
  simp only [State.minOnCheck]
  split
  · exact (h.endMinOnWait n).sweepWindows
  · exact h

theorem State.Dormant.retryTick (h : s.Dormant) (n : Channel) : s.retryTick n = s := by
  obtain hs | hs := h n <;> simp [State.retryTick, hs]

theorem State.Dormant.releaseHold (h : s.Dormant) (l : HoldLine) : (s.releaseHold l).Dormant :=
  .foldl (fun t n ht => by
    split
    · exact ht.endHoldWait n
    · exact ht) _ h

theorem State.Dormant.of_stage1 (s : State) : s.beginRestart.Dormant := fun n => by
  rw [s.load_beginRestart]
  unfold Load.stage1
  split
  · exact .inr rfl
  · next h => exact .inl (by simpa [Load.enrolled] using h)

theorem State.completeSave_loadingLaw (image found : StoreWords) (h : s.loadingLaw) :
    (s.completeSave image found).loadingLaw := by
  simp only [State.completeSave]
  split
  · exact fun _ => State.Dormant.of_stage1 _
  · split <;> exact h

theorem exec_port_loading {c : Instr} (hc : OverPort c) (hr : s.startup.ready = false) : exec c s = .next s := by
  cases c <;> try exact hc.elim
  all_goals exact whenAnswering_loading hr _

/-- In LOADING no event but stage 3 brings a record out of VACANT or IDLE. -/
theorem exec_dormant {c : Instr} (hc : ¬Resetting c) (hr : s.startup.ready = false) (hs : s.Dormant)
    (he : exec c s = .next t) : t.Dormant := by
  by_cases hp : OverPort c
  case pos => exact Host.Outcome.next.inj ((exec_port_loading hp hr).symm.trans he) ▸ hs
  cases c <;> try exact absurd trivial hp
  case powerOn | lossOfPower | startupStage2 | startupStage3 | saveCompletion | forceOffAssertion | forceOffRelease
    | lineTick => exact absurd trivial hc
  case captureTick => exact of_whenPowered he hs fun _ => hs.of_loads rfl
  case quietExpiry | fullSync | setupLevelChange | holdAssertion =>
    exact of_whenPowered he hs fun _ => of_ite hs fun _ => hs.of_loads rfl
  case restReAnchor =>
    refine of_whenPowered he hs fun _ => of_ite hs fun _ => ?_
    simp only [State.restReAnchor]
    split <;> exact hs.of_loads rfl
  case pulse d =>
    refine of_whenPowered he hs fun _ => of_ite hs fun _ => hs.of_states fun n => ?_
    rw [State.takePulse, State.load_mapLoads]
    rfl
  case sampleTick code =>
    refine of_whenPowered he hs fun _ => of_takeWork hs fun _ => (hs.of_loads (t := s.workTaken .sample) rfl).of_states ?_
    intro n
    rw [State.load_sampleTick, Load.closeWindow_keeps]
  case evaluation =>
    refine of_whenPowered he hs fun _ => of_takeWork hs fun _ => ?_
    rw [if_neg (by simp [hr])]
    exact hs.of_loads rfl
  case minOffExpiry =>
    refine of_whenPowered he hs fun _ => of_takeWork hs fun _ => ?_
    rw [if_neg (by simp [hr])]
    exact hs.of_loads rfl
  case dwellIncrement =>
    refine of_whenPowered he hs fun _ => of_takeWork hs fun _ =>
      .mapLoads (hs.of_loads (t := s.workTaken .dwell) rfl) fun _ r => ?_
    unfold Load.dwellTick
    split <;> rfl
  case settleEnd n =>
    refine of_whenPowered he hs fun _ => of_takeWork hs fun _ =>
      .modify (hs.of_loads (t := s.workTaken (.settle n)) rfl) n fun r hr => ?_
    rw [Load.settleTick, if_neg]
    rintro h
    simp [h] at hr
  case cleanRun n =>
    refine of_whenPowered he hs fun _ => of_takeWork hs fun _ =>
      .modify (hs.of_loads (t := s.workTaken (.cleanRun n)) rfl) n fun r hr => ?_
    rw [Load.cleanRunTick, if_neg]
    rintro h
    simp [h] at hr
  case holdLimitExpiry n =>
    exact of_whenPowered he hs fun _ => of_takeWork hs fun _ =>
      State.Dormant.holdLimitTick (s := s.workTaken (.holdLimit n)) (hs.of_loads rfl) n
  case minOnReached n => 
    exact of_whenPowered he hs fun _ => of_takeWork hs fun _ =>
      State.Dormant.minOnCheck (s := s.workTaken (.minOn n)) (hs.of_loads rfl) n
  case retryExpiry n =>
    refine of_whenPowered he hs fun _ => of_takeWork hs fun _ => ?_
    have hw : (s.workTaken (.retry n)).Dormant := hs.of_loads rfl
    rw [hw.retryTick]
    exact hw
  case stableLevelChange n =>
    refine of_whenPowered he hs fun _ => of_ite hs fun _ => .sweepWindows ?_
    have hswitch : (s.switchToggled n).switchEvent n (!s.switches[n].pressed) = s.switchToggled n := by
      rw [State.switchEvent, if_neg]
      simp [State.switchToggled, hr]
    rw [hswitch]
    exact hs.of_loads rfl
  case holdRelease l =>
    exact of_whenPowered he hs fun _ => of_ite hs fun _ =>
      .sweepWindows (.releaseHold (hs.of_loads (t := s.holdToggled l) rfl) l)
  case trip n =>
    refine of_whenPowered he hs fun _ => ?_
    rw [if_neg (by simp [hs.off n])]
    exact hs

/-- What the events that begin a start-up or take a stage of it leave of the records in LOADING. -/
theorem exec_loadingLaw_of_resetting {c : Instr} (hc : Resetting c) (h : s.loadingLaw) (he : exec c s = .next t) :
    t.loadingLaw := by
  cases c <;> try exact hc.elim
  case powerOn => exact Host.Outcome.next.inj he ▸ State.poweredOn_loadingLaw _ _ _
  case lossOfPower cut =>
    exact of_whenPowered he h fun _ => State.poweredOn_loadingLaw s.port.address
      (storeAfterLoss s.store.saving s.store.image cut) s.pending
  case startupStage2 =>
    refine of_whenPowered he h fun _ => of_ite h fun _ => ?_
    have hl : s.stage2.loads = s.loads ∧ s.stage2.startup.ready = s.startup.ready := by
      simp only [State.stage2]
      split <;> exact ⟨rfl, rfl⟩
    intro hr
    exact State.Dormant.of_loads (h (hl.2 ▸ hr)) hl.1
  case startupStage3 =>
    refine of_whenPowered he h fun _ => ?_
    split
    · refine of_ite h fun _ hr => ?_
      rw [State.stage3_eq] at hr
      exact absurd hr nofun
    · exact h
  case restart =>
    refine of_whenAnswering he h fun _ _ => ?_
    split
    · exact fun _ => State.Dormant.of_stage1 _
    · exact h
  case saveCompletion found =>
    refine of_whenPowered he h fun _ => ?_
    split
    · exact State.completeSave_loadingLaw _ found h
    · exact h
  case budgetProfileCommit =>
    refine of_whenAnswering he h fun _ hr hl => ?_
    exact absurd ((congrArg Startup.ready (State.commitBudget_startup ..)).symm.trans hl) (by simp [hr])
  case forceOffAssertion =>
    refine of_whenPowered he h fun _ => of_ite h fun _ hr n => ?_
    have hs : s.Dormant := h ((congrArg Startup.ready (State.startup_of_apart s.forceOffAsserted_apart)).symm.trans hr)
    rw [State.load_forceOffAsserted, Load.forcedOff, if_neg (by simp [hs.off n])]
    exact hs n
  case forceOffRelease =>
    refine of_whenPowered he h fun _ => of_ite h fun _ hr => ?_
    have hs : s.Dormant := h ((congrArg Startup.ready (State.startup_of_apart
      (s := { s with forceOff := ⟨false, 0⟩ }) (by simp))).symm.trans hr)
    exact ((hs.of_loads (t := { s with forceOff := ⟨false, 0⟩ }) rfl).essentialSweep).sweepWindows
  case lineTick l =>
    refine of_whenPowered he h fun _ => of_takeWork h fun _ hr n => ?_
    rw [State.load_lineTick]
    have hs : s.Dormant := h hr
    rw [Load.diagTick, if_neg (by simp [hs.off n])]
    exact hs n

theorem exec_loadingLaw {c : Instr} (h : s.loadingLaw) (he : exec c s = .next t) : t.loadingLaw := by
  by_cases hc : Resetting c
  case pos => exact exec_loadingLaw_of_resetting hc h he
  case neg =>
    obtain ⟨-, hstartup⟩ := exec_ordinary he hc
    intro hr
    rw [hstartup] at hr
    exact exec_dormant hc hr (h hr) he

/-! ## FORCE_OFF and the restores under way (R120, R147) -/

/-- Both laws, of which every event of the records keeps each. -/
def State.Restrained (s : State) : Prop := s.forceOffLaw ∧ s.oneStarting

theorem Event.restrained (h : Event s t) (hs : s.Restrained) : t.Restrained := ⟨h.forced hs.1, h.one hs.2⟩

theorem State.Restrained.of_same (h : s.Restrained) (hl : t.loads = s.loads) (hf : t.forceOff = s.forceOff) :
    t.Restrained := by
  have hload : ∀ n, t.load n = s.load n := fun n => by rw [State.load, State.load, hl]
  simpa only [State.Restrained, State.forceOffLaw, State.oneStarting, hload, hf] using h

/-- With no record on, nothing is STARTING. -/
theorem State.restrained_of_off (h : ∀ n, (s.load n).on = false) : s.Restrained :=
  ⟨fun _ => h, fun m _ hm => by simp [Load.on, hm] at h ⊢; exact absurd hm (h m).1.1⟩

theorem State.Dormant.restrained (h : s.Dormant) : s.Restrained := State.restrained_of_off h.off

theorem State.stage3_restrained (s : State) (kept : Vector ChannelWords 12) : (s.stage3 kept).Restrained := by
  have htable : (s.tableRebuilt kept).Dormant := fun n => by
    rw [s.load_tableRebuilt]
    unfold Load.rebuilt
    split
    · exact .inr rfl
    · exact .inl rfl
  have hevent := ((Event.entriesRebuilt s kept).trans (.essentialSweep _)).trans (.sweepWindows _)
  refine (hevent.restrained htable.restrained).of_same (State.loads_ext _ (s.load_stage3 kept)) ?_
  rw [s.stage3_eq]
  generalize (s.entriesRebuilt kept).essentialSweep = u
  rfl

theorem State.completeSave_restrained (image found : StoreWords) (h : s.Restrained) :
    (s.completeSave image found).Restrained := by
  simp only [State.completeSave]
  split
  · exact State.Dormant.restrained (.of_stage1 _)
  · split <;> exact h

theorem State.commitBudget_forceOff (mask : Option Wide) (w : BudgetWords) (s : State) :
    (s.commitBudget mask w).forceOff = s.forceOff := by
  simp only [State.commitBudget]
  split
  · rfl
  · exact State.forceOff_of_apart (s.refuseIf_apart _)

theorem Load.diagTick_keeps (faulty : Bool) (r : Load) : (r.diagTick faulty).state = r.state
    ∧ (r.diagTick faulty).cls = r.cls ∧ (r.diagTick faulty).window = r.window := by
  unfold Load.diagTick
  split
  · split <;> exact ⟨rfl, rfl, rfl⟩
  · exact ⟨rfl, rfl, rfl⟩

/-- A line tick that asserts FORCE_OFF takes the first level of a start-up, with every output off (R145, R157). -/
theorem State.lineTick_restrained (l : LineLevels) (hl : s.loadingLaw) (h : s.Restrained) :
    (s.lineTick l).Restrained := by
  have hrecord := fun n => Load.diagTick_keeps (lineFaulty l n) (s.load n)
  have hon : ∀ n, ((s.lineTick l).load n).on = (s.load n).on := fun n => by
    obtain ⟨hstate, -⟩ := hrecord n
    simp only [Load.on, s.load_lineTick, hstate]
  refine ⟨fun hforce n => ?_, ?_⟩
  · rw [hon]
    by_cases hfirst : s.firstTick = true
    · have hs : s.Dormant := hl (by simpa using (Bool.and_eq_true_iff.mp hfirst).1)
      exact hs.off n
    · refine h.1 ?_ n
      have hlevel : (if s.firstTick then ⟨lineForcing l, 0⟩ else s.forceOff.tick (lineForcing l) : Filter).level = true :=
        hforce
      rw [if_neg hfirst, Filter.tick] at hlevel
      split at hlevel <;> exact hlevel
  · intro m n
    obtain ⟨hm, hmc, -⟩ := hrecord m
    obtain ⟨hn, hnc, -⟩ := hrecord n
    rw [s.load_lineTick, s.load_lineTick, hm, hmc, hn, hnc]
    exact h.2 m n

theorem exec_restrained {c : Instr} (hl : s.loadingLaw) (h : s.Restrained) (he : exec c s = .next t) : t.Restrained := by
  by_cases hc : Resetting c
  case neg =>
    obtain ⟨hevent, -⟩ := exec_ordinary he hc
    exact hevent.restrained h
  cases c <;> try exact hc.elim
  case powerOn =>
    exact Host.Outcome.next.inj he ▸ State.Dormant.restrained fun n => .inl (by rw [State.load_poweredOn])
  case lossOfPower cut =>
    refine of_whenPowered he h fun _ => State.Dormant.restrained fun n => .inl ?_
    exact congrArg Load.state (State.load_poweredOn s.port.address
      (storeAfterLoss s.store.saving s.store.image cut) s.pending n)
  case startupStage2 =>
    refine of_whenPowered he h fun _ => of_ite h fun _ => ?_
    refine h.of_same ?_ ?_ <;>
    · simp only [State.stage2]
      split <;> rfl
  case startupStage3 =>
    refine of_whenPowered he h fun _ => ?_
    split
    · exact of_ite h fun _ => s.stage3_restrained _
    · exact h
  case restart =>
    refine of_whenAnswering he h fun _ _ => ?_
    split
    · exact State.Dormant.restrained (.of_stage1 _)
    · exact h
  case saveCompletion found =>
    refine of_whenPowered he h fun _ => ?_
    split
    · exact State.completeSave_restrained _ found h
    · exact h
  case budgetProfileCommit =>
    refine of_whenAnswering he h fun _ _ => h.of_same (State.commitBudget_loads ..) (State.commitBudget_forceOff ..)
  case forceOffAssertion =>
    refine of_whenPowered he h fun _ => of_ite h fun _ => State.restrained_of_off fun n => ?_
    rw [State.load_forceOffAsserted]
    exact (s.load n).forcedOff_off
  case forceOffRelease =>
    refine of_whenPowered he h fun _ => of_ite h fun _ => ?_
    have hevent := (Event.essentialSweep { s with forceOff := ⟨false, 0⟩ }).trans (.sweepWindows _)
    exact hevent.restrained ⟨nofun, h.2⟩
  case lineTick l =>
    exact of_whenPowered he h fun _ => of_takeWork h fun _ => State.lineTick_restrained (s := s.workTaken .line) l hl h

end

end Sys2Proof.Machine
end

section
/-! PROOFS. What every event leaves of the open learn windows (R158, R160, R164). -/

namespace Sys2Proof.Machine

/-- A record with an output line that a window can stand on (R158). -/
def Load.Lit (r : Load) : Prop := r.state = .starting ∨ r.state = .running

/-- What an event, before its end, makes of the window of such a record: nothing, or it closes it and brings the record out of
STARTING and RUNNING. -/
def Load.Fate (r r' : Load) : Prop := r'.window = r.window ∨ (r'.window = .closed ∧ ¬r'.Lit)

/-- What an event leaves of the window of record n. -/
def State.WindowStep (n : Channel) (s t : State) : Prop :=
  (t.load n).window = (s.load n).window.leftIn n t ∨ ((t.load n).window = .closed ∧ ¬(t.load n).Lit)

/-- What an event leaves of all windows, where those of the exempt records are stated elsewhere. -/
structure State.WindowsKept (exempt : Channel → Prop) (s t : State) : Prop where
  law : t.windowsLaw
  record : ∀ n, ¬exempt n → s.loadingLaw → (s.load n).Lit → s.WindowStep n t

section
variable {s t u : State} {n m : Channel} {r r' : Load} {exempt : Channel → Prop}

theorem Load.Lit.on (h : r.Lit) : r.on = true := by
  obtain hs | hs := h <;> simp [Load.on, hs]

theorem Load.Fate.same (r : Load) : r.Fate r := .inl rfl

theorem Load.Fate.of_state (hw : r'.window = .closed) (hs : r'.state ≠ .starting ∧ r'.state ≠ .running) : r.Fate r' :=
  .inr ⟨hw, fun h => h.elim hs.1 hs.2⟩

/-- An open window is that of a record in STARTING or RUNNING (R158). -/
theorem Load.lawful.lit (h : r.lawful) (hw : r.window ≠ .closed) : r.Lit := by
  obtain ⟨-, -, -, -, hfits, -⟩ := h
  cases hr : r.window with
  | closed => exact absurd hr hw
  | settling o => exact .inl (by simpa [Load.windowLaw, hr, Window.fits] using hfits)
  | closing o => exact .inr (by simpa [Load.windowLaw, hr, Window.fits] using hfits)

/-- A window whose lines stand is left. -/
theorem Window.leftIn_of_lines {w : Window} (h : ∀ o ∈ w.opening, ∀ m : Channel, m ≠ n → o.lines[m] = t.outputs[m]) :
    w.leftIn n t = w := by
  cases w with
  | closed => rfl
  | settling o | closing o =>
    exact if_neg fun ⟨m, hm, hne⟩ => hne (h o rfl m hm)

/-- A window of which a line does not stand is closed. -/
theorem Window.leftIn_of_changed {w : Window} (h : ∀ o ∈ w.opening, ∃ m : Channel, m ≠ n ∧ o.lines[m] ≠ t.outputs[m]) :
    w.leftIn n t = .closed := by
  cases w with
  | closed => rfl
  | settling o | closing o => exact if_pos (h o rfl)

theorem State.windowsLaw_of_loads (h : s.windowsLaw) (hl : t.loads = s.loads) : t.windowsLaw := by
  have hload : ∀ n, t.load n = s.load n := fun n => by rw [State.load, State.load, hl]
  have hout : t.outputs = s.outputs := State.outputs_of_on fun m => by rw [hload]
  simpa only [State.windowsLaw, hload, hout] using h

/-- An event whose end is the sweep of the windows. -/
theorem State.WindowsKept.of_sweep (h : ∀ n, ¬exempt n → s.loadingLaw → (s.load n).Lit → (s.load n).Fate (u.load n)) :
    s.WindowsKept exempt u.sweepWindows where
  law := u.sweepWindows_windowsLaw
  record n hn hl hs := by
    rw [State.WindowStep, State.load_sweepWindows]
    obtain hw | ⟨hw, hlit⟩ := h n hn hl hs
    · refine .inl ?_
      rw [← hw, ← Window.swept_eq_leftIn, State.sweepWindows_outputs]
    · refine .inr ⟨?_, hlit⟩
      rw [hw, Window.swept_closed]

/-- An event that only reaches the records through such an end. -/
theorem State.WindowsKept.of_loads (h : s.WindowsKept exempt u) (hl : t.loads = u.loads) : s.WindowsKept exempt t where
  law := State.windowsLaw_of_loads h.law hl
  record n hn hload hs := by
    have hout : t.outputs = u.outputs := State.outputs_of_on fun m => by rw [State.load, State.load, hl]
    have hstep := h.record n hn hload hs
    unfold State.WindowStep Window.leftIn at hstep ⊢
    rw [hout, State.load, hl]
    exact hstep

/-- An event that changes no output line, and opens no window. -/
theorem State.WindowsKept.of_openings (hw : s.windowsLaw) (ho : ∀ n, (t.load n).on = (s.load n).on)
    (h : ∀ n, ∀ o ∈ (t.load n).window.opening, o ∈ (s.load n).window.opening)
    (hsame : ∀ n, ¬exempt n → s.loadingLaw → (s.load n).Lit → (t.load n).window = (s.load n).window) :
    s.WindowsKept exempt t := by
  have hout := State.outputs_of_on ho
  have hlaw : t.windowsLaw := fun n o hopen m hm => by
    rw [hout]
    exact hw n o (h n o hopen) m hm
  refine ⟨hlaw, fun n hn hl hs => .inl ?_⟩
  rw [← hsame n hn hl hs, Window.leftIn_of_lines (hlaw n)]

/-- An event that keeps every window and every output line. -/
theorem State.WindowsKept.of_still (hw : s.windowsLaw) (h : ∀ n, (t.load n).on = (s.load n).on
    ∧ (t.load n).window = (s.load n).window) : s.WindowsKept exempt t :=
  .of_openings hw (fun n => (h n).1) (fun n _ ho => (h n).2 ▸ ho) fun n _ _ _ => (h n).2

theorem State.WindowsKept.of_same (hw : s.windowsLaw) (hl : t.loads = s.loads) : s.WindowsKept exempt t :=
  .of_still hw fun n => by rw [State.load, hl]; exact ⟨rfl, rfl⟩

/-- An event that changes one record, and no window or line of it. -/
theorem State.WindowsKept.of_modify (hw : s.windowsLaw) {f : Load → Load}
    (hf : (f (s.load m)).on = (s.load m).on ∧ (f (s.load m)).window = (s.load m).window) :
    s.WindowsKept exempt (s.modify m f) :=
  .of_still hw fun n => by
    by_cases hn : n = m
    · rw [hn, s.load_modify_self]
      exact hf
    · rw [s.load_modify_of_ne f hn]
      exact ⟨rfl, rfl⟩

/-- An event at one record that is in neither state, with its end. -/
theorem State.WindowsKept.of_others (ho : u.others m = s.others m) (hm : ¬(s.load m).Lit) :
    s.WindowsKept exempt u.sweepWindows :=
  .of_sweep fun n _ _ hs => by
    have hn : n ≠ m := by
      rintro rfl
      exact hm hs
    rw [State.load_of_others ho hn]
    exact .same _

/-- An event that leaves every output off. -/
theorem State.WindowsKept.of_dark (hw : ∀ n, (t.load n).window = .closed) (ho : ∀ n, (t.load n).on = false) :
    s.WindowsKept exempt t where
  law n o h := by
    rw [hw] at h
    cases h
  record n _ _ _ := .inr ⟨hw n, fun h => by simpa [ho n] using h.on⟩

/-- Work of a tick. -/
theorem State.WindowsKept.of_takeWork {w : TickWork} {f : State → State} (hw : s.windowsLaw)
    (hf : (s.workTaken w).WindowsKept exempt (f (s.workTaken w))) : s.WindowsKept exempt (s.takeWork w f) := by
  refine Machine.of_takeWork (I := s.WindowsKept exempt) (.of_same hw rfl) fun _ => ⟨hf.law, fun n hn hl hs => ?_⟩
  exact hf.record n hn hl hs

theorem State.WindowsKept.of_whenPowered (hw : s.windowsLaw) (h : whenPowered s u = .next t)
    (hu : s.WindowsKept exempt u) : s.WindowsKept exempt t :=
  Machine.of_whenPowered (I := s.WindowsKept exempt) h (.of_same hw rfl) fun _ => hu

theorem State.WindowsKept.of_whenAnswering (hw : s.windowsLaw) (h : whenAnswering s u = .next t)
    (hu : s.WindowsKept exempt u) : s.WindowsKept exempt t :=
  Machine.of_whenAnswering (I := s.WindowsKept exempt) h (.of_same hw rfl) fun _ _ => hu

/-! ## Folds over records -/

/-- Steps at single records leave a record that its own step leaves. -/
theorem State.load_foldl_of_fixed {f : State → Channel → State} (ho : ∀ t m, (f t m).others m = t.others m)
    (hr : ∀ t : State, t.load n = r → (f t n).load n = r) (l : List Channel) (h : s.load n = r) :
    (l.foldl f s).load n = r := by
  induction l generalizing s with
  | nil => exact h
  | cons m l ih =>
    refine ih ?_
    by_cases hm : n = m
    · exact hm ▸ hr s h
    · rw [State.load_of_others (ho s m) hm]
      exact h

/-- The essential sweep starts records of the Standby List alone (R102). -/
theorem State.load_essentialSweep_of_not_standby (h : (s.load n).state ≠ .standby) :
    s.essentialSweep.load n = s.load n :=
  State.load_foldl_of_fixed (fun t m => t.essentialCheck_others (n := m)) (fun t ht => by
    obtain hc | ⟨-, hs, -⟩ := t.essentialCheck_cases n
    · rw [hc, ht]
    · rw [ht] at hs
      exact absurd hs h) _ rfl

theorem Load.Lit.not_standby (h : r.Lit) : r.state ≠ .standby := by
  obtain hs | hs := h <;> simp [hs]

theorem Load.Lit.not_deferred (h : r.Lit) : r.state ≠ .deferred := by
  obtain hs | hs := h <;> simp [hs]

theorem State.WindowsKept.essentialSweep : s.WindowsKept exempt s.essentialSweep.sweepWindows :=
  .of_sweep fun n _ _ hs => by
    rw [State.load_essentialSweep_of_not_standby hs.not_standby]
    exact .same _

/-! ## The evaluation -/

/-- One turn of the walk or of the depleted stage at a record that was STARTING or RUNNING. -/
theorem Walk.fate_candidate {w : Walk}
    (h : w.part.load n = r ∨ ((w.part.load n).window = .closed ∧ ¬(w.part.load n).Lit)) (m : Channel) : (w.candidate m).part.load n = r
      ∨ (((w.candidate m).part.load n).window = .closed ∧ ¬((w.candidate m).part.load n).Lit) := by
  by_cases hm : n = m
  case neg =>
    rw [State.load_of_others (w.candidate_others m) hm]
    exact h
  subst hm
  unfold Walk.candidate
  split
  case isFalse => exact h
  case isTrue ht =>
    have hw : (w.part.load n).walkable = true := (Bool.and_eq_true_iff.mp ht).2
    refine .inr ?_
    split
    · have hload := State.load_budgetCut_self (Load.walkable_on hw)
      show ((w.part.budgetCut n).load n).window = .closed ∧ ¬((w.part.budgetCut n).load n).Lit
      rw [hload]
      exact ⟨rfl, fun h => h.elim nofun nofun⟩
    · show ((w.part.deferBudget n).load n).window = .closed ∧ ¬((w.part.deferBudget n).load n).Lit
      rw [State.deferBudget, State.load_modify_self]
      exact ⟨rfl, fun h => h.elim nofun nofun⟩

theorem Walk.fate_depletedRecord {w : Walk} (hr : r.Lit)
    (h : w.part.load n = r ∨ ((w.part.load n).window = .closed ∧ ¬(w.part.load n).Lit)) (m : Channel) :
    (w.depletedRecord m).part.load n = r
      ∨ (((w.depletedRecord m).part.load n).window = .closed ∧ ¬((w.depletedRecord m).part.load n).Lit) := by
  by_cases hm : n = m
  case neg =>
    rw [State.load_of_others (w.depletedRecord_others m) hm]
    exact h
  subst hm
  by_cases hd : (w.part.load n).state = .deferred ∧ (w.part.load n).reason = .deferred .budget
  case neg =>
    rw [Walk.depletedRecord_of_not hd]
    exact h
  obtain ⟨hs, hreason⟩ := hd
  obtain h | ⟨hclosed, hlit⟩ := h
  · exact absurd (h ▸ hs) hr.not_deferred
  refine .inr ?_
  cases hh : (w.part.load n).waitHold with
  | true =>
    rw [Walk.depletedRecord_of_holding hs hreason hh]
    exact ⟨hclosed, hlit⟩
  | false =>
    rw [Walk.depletedRecord_of_free hs hreason hh]
    exact ⟨rfl, fun h => h.elim nofun nofun⟩

theorem Walk.fate_foldl {f : Walk → Channel → Walk} {P : Load → Prop}
    (hf : ∀ (w : Walk) m, P (w.part.load n) → P ((f w m).part.load n)) (l : List Channel) {w : Walk}
    (h : P (w.part.load n)) : P ((l.foldl f w).part.load n) := by
  induction l generalizing w with
  | nil => exact h
  | cons m l ih => exact ih (hf w m h)

theorem State.fate_walked (hr : (s.load n).Lit) : s.walked.part.load n = s.load n
    ∨ ((s.walked.part.load n).window = .closed ∧ ¬(s.walked.part.load n).Lit) := by
  let P : Load → Prop := fun r => r = s.load n ∨ (r.window = .closed ∧ ¬r.Lit)
  have hstart : P ((⟨s.formAllowance, s.formAllowance.sense.pub.filtered, false⟩ : Walk).part.load n) := .inl rfl
  have hwalk : P ((Walk.deficitWalk ⟨s.formAllowance, s.formAllowance.sense.pub.filtered, false⟩).part.load n) := by
    unfold Walk.deficitWalk
    split
    · exact Walk.fate_foldl (fun w m h => Walk.fate_candidate h m) _ hstart
    · exact hstart
  show P (s.walked.part.load n)
  unfold State.walked Walk.depletedStage
  split
  · exact Walk.fate_foldl (fun w m h => Walk.fate_depletedRecord hr h m) _ hwalk
  · exact hwalk

theorem State.WindowsKept.evaluate : s.WindowsKept exempt s.evaluate := by
  rw [s.evaluate_eq]
  refine .of_sweep fun n _ _ hs => ?_
  rw [s.beforeLevel.load_closed]
  have hlater : (s.beforeLevel.load n).window = (s.walked.restore.load n).window
      ∧ (s.beforeLevel.load n).state = (s.walked.restore.load n).state := by
    by_cases h : (s.walked.restore.load n).state = .standby
    · rw [State.beforeLevel_load_standby h]
      exact ⟨rfl, rfl⟩
    · rw [State.beforeLevel_load_other h]
      exact ⟨rfl, rfl⟩
  have hrestore : s.walked.restore.load n = s.walked.part.load n := by
    by_cases h : (s.walked.part.load n).state = .standby
    · have hcut : s.walked.cut = true := s.walked_reach.cut.mpr ⟨n, hs.on, by simp [Load.on, h]⟩
      rw [Walk.restore_of_cut hcut]
    · exact Walk.load_restore_of_not_standby h
  rw [hrestore] at hlater
  obtain ⟨hwindow, hstate⟩ := hlater
  unfold Load.Fate Load.Lit
  rw [hwindow, hstate]
  exact (State.fate_walked hs).imp (congrArg Load.window) id

end

/-! ## Every event -/

/-- The commands whose windows O8, O55, O32 and O43 to O45 with O60 state, at the records where they do. -/
def Exempt : Instr → Channel → Prop
  | .pulse _, _ | .sampleTick _, _ => True
  | .settleEnd m, n | .loadCommit m _, n => n = m
  | _, _ => False

section
variable {s t u v : State} {n m : Channel} {r : Load} {exempt : Channel → Prop}

/-- An event that begins with a change beside the records. -/
theorem State.WindowsKept.from_same (h : v.WindowsKept exempt u) (hl : v.loads = s.loads) (hs : v.startup = s.startup) :
    s.WindowsKept exempt u := by
  have hload : ∀ n, v.load n = s.load n := fun n => by rw [State.load, State.load, hl]
  refine ⟨h.law, fun n hn hload' hlit => ?_⟩
  have hstep := h.record n hn (by simpa only [State.loadingLaw, hload, hs] using hload') (by rwa [hload])
  rwa [State.WindowStep, hload] at hstep

theorem State.WindowsKept.of_commit {space : Space} {index : Nat} {effect : Option Wide → State → State}
    (hw : s.windowsLaw) (h : whenAnswering s (s.maskedCommit space index effect) = .next t)
    (he : ∀ v : State, v.loads = s.loads → v.WindowsKept exempt (effect s.port.mask v)) : s.WindowsKept exempt t := by
  let v : State := { s with port := s.port.reach space index }
  have heffect : s.WindowsKept exempt (effect s.port.mask v) := .from_same (v := v) (he v rfl) rfl rfl
  exact .of_whenAnswering hw h (.of_loads heffect rfl)

theorem State.WindowsKept.of_command {i : Nat} {channel : Byte} {effect : State → State × CommandResult}
    (hw : s.windowsLaw) (h : whenAnswering s (s.command i channel effect) = .next t)
    (he : ∀ v : State, v.loads = s.loads → v.WindowsKept exempt (effect v).1) : s.WindowsKept exempt t := by
  let v : State := { s with port := s.port.reach .command i }
  have heffect : s.WindowsKept exempt (effect v).1 := .from_same (v := v) (he v rfl) rfl rfl
  exact .of_whenAnswering hw h (.of_loads heffect rfl)

/-- A request OFF at a record in STARTING or RUNNING (R83). -/
theorem State.fate_arriveOff (h : (s.load n).Lit) : (s.load n).Fate ((s.arriveOff n).load n) := by
  have harrive : s.arriveOff n = (s.modify n fun r => { r with request := false }).offWhileOn n := by
    obtain hs | hs := h <;> simp only [State.arriveOff, hs]
  have hself := s.load_modify_self n fun r => { r with request := false }
  rw [harrive, State.offWhileOn]
  split
  · rw [State.load_modify_self]
    exact .of_state rfl ⟨nofun, nofun⟩
  · rw [State.load_cutToIdle_self (by rw [hself]; exact h.on)]
    exact .of_state rfl ⟨nofun, nofun⟩

theorem State.fate_switchEvent (hr : (s.load n).lawful) (h : (s.load n).Lit) (press : Bool) :
    (s.load n).Fate ((s.switchEvent n press).load n) := by
  have hreq : (s.load n).request = true := by
    obtain ⟨⟨-, hreq, -⟩, -⟩ := hr
    exact hreq (by obtain hs | hs := h <;> simp [hs])
  obtain ⟨on, hevent, -⟩ | ⟨hevent, -⟩ := s.switchEvent_cases n press
  · rw [hevent]
    cases on with
    | true => rw [State.setRequest_same hreq]; exact .same _
    | false => rw [State.setRequest_off hreq]; exact State.fate_arriveOff h
  · rw [hevent]
    exact .same _

theorem Load.lawful.waits (h : r.lawful) : (r.waitHold || r.waitMinOn) = (r.state == .deferred) := by
  obtain ⟨-, -, -, ⟨hwaits, -⟩, -⟩ := h
  exact hwaits

/-- The work of a second tick at a record that waits (R132, R134). -/
theorem State.WindowsKept.holdLimitTick (hw : s.windowsLaw) (hr : (s.load m).lawful) :
    s.WindowsKept exempt (s.holdLimitTick m) := by
  simp only [State.holdLimitTick]
  split
  case isFalse => exact .of_same hw rfl
  case isTrue hwait =>
    split
    · refine .of_others (m := m) (by simp) fun hlit => ?_
      have hs := hr.waits
      rw [hwait] at hs
      exact hlit.not_deferred (by simpa using hs)
    · exact .of_modify hw ⟨rfl, rfl⟩

theorem State.WindowsKept.minOnCheck (hw : s.windowsLaw) (hr : (s.load m).lawful) :
    s.WindowsKept exempt (s.minOnCheck m) := by
  simp only [State.minOnCheck]
  split
  case isFalse => exact .of_same hw rfl
  case isTrue hwait =>
    refine .of_others (m := m) (by simp) fun hlit => ?_
    have hs := hr.waits
    rw [(Bool.and_eq_true_iff.mp hwait).1] at hs
    exact hlit.not_deferred (by simpa using hs)

theorem State.WindowsKept.retryTick (hw : s.windowsLaw) : s.WindowsKept exempt (s.retryTick m) := by
  simp only [State.retryTick]
  split
  case h_1 k hs hk =>
    split
    · exact .of_others (m := m) (by simp) fun hlit => by obtain h | h := hlit <;> simp [hs] at h
    · exact .of_modify hw ⟨rfl, rfl⟩
  case h_2 => exact .of_same hw rfl

theorem State.WindowsKept.clearFault (hw : s.windowsLaw) : s.WindowsKept exempt (s.clearFault m).1 := by
  simp only [State.clearFault]
  split
  case h_1 hs =>
    refine .of_modify hw (f := fun r => { r.toIdle with retriesUsed := 0 }) ⟨?_, rfl⟩
    rw [Load.on, Load.on, hs]
    rfl
  case h_2 hs => exact .of_others (m := m) (by simp) fun hlit => by obtain h | h := hlit <;> simp [hs] at h
  all_goals exact .of_same hw rfl

/-- A restart's stage 1 leaves no window, and no output on (R193). -/
theorem Load.lawful.stage1_dark (h : r.lawful) : r.stage1.window = .closed ∧ r.stage1.on = false := by
  unfold Load.stage1
  split
  case isTrue => exact ⟨rfl, rfl⟩
  case isFalse hv =>
    obtain ⟨-, -, -, -, -, -, -, hvacant⟩ := h
    rw [hvacant (by simpa [Load.enrolled] using hv)]
    exact ⟨rfl, rfl⟩

theorem State.WindowsKept.beginRestart (hr : s.recordsLaw) : t.WindowsKept exempt s.beginRestart := by
  have hdark := fun n => (hr n).stage1_dark
  exact .of_dark (fun n => by rw [s.load_beginRestart]; exact (hdark n).1) fun n => by
    rw [s.load_beginRestart]; exact (hdark n).2

theorem State.WindowsKept.completeSave (hw : s.windowsLaw) (hr : s.recordsLaw) (image found : StoreWords) :
    s.WindowsKept exempt (s.completeSave image found) := by
  simp only [State.completeSave]
  split
  · refine .beginRestart ?_
    split <;> exact hr
  · split <;> exact .of_same hw rfl

theorem Window.opening_of_seePulse {d : Direction} {w : Window} {o : Opening} (h : o ∈ (w.seePulse d).opening) :
    o ∈ w.opening := by
  rw [Window.seePulse_eq] at h
  cases w with
  | closed => exact h
  | settling p | closing p =>
    dsimp only at h
    split at h
    · exact h
    · cases h

theorem Load.opening_of_closeWindow {p : Published} {o : Opening} (h : o ∈ (r.closeWindow p).window.opening) :
    o ∈ r.window.opening := by
  unfold Load.closeWindow at h
  split at h
  · cases h
  · exact h

theorem Load.settleTick_keeps (r : Load) :
    r.settleTick.on = r.on ∧ r.settleTick.window.opening = r.window.opening := by
  unfold Load.settleTick
  split
  case isFalse => exact ⟨rfl, rfl⟩
  case isTrue hs =>
    split
    · refine ⟨by simp [Load.on, hs], ?_⟩
      cases r.window <;> simp [Window.settleEnded]
      rfl
    · exact ⟨rfl, rfl⟩

theorem exec_windowsKept_of_port {c : Instr} (hc : OverPort c) (hw : s.windowsLaw) (hr : s.recordsLaw)
    (he : exec c s = .next t) : s.WindowsKept (Exempt c) t := by
  cases c <;> try exact hc.elim
  case pointerSet =>
    refine .of_whenAnswering hw he ?_
    split
    · split <;> exact .of_same hw rfl
    · exact .of_same hw rfl
  case readTransaction =>
    refine .of_whenAnswering hw he ?_
    split
    · rw [State.readBytes_eq]
      exact .of_same hw rfl
    · exact .of_same hw rfl
  case statusSnapshot =>
    refine .of_whenAnswering hw he ?_
    rw [State.readByte_eq]
    exact .of_same hw rfl
  case partialWrite =>
    refine .of_whenAnswering hw he ?_
    split <;> exact .of_same hw rfl
  case listsWrite | statusCommit | setChangeMask => exact .of_whenAnswering hw he (.of_same hw rfl)
  case restart =>
    refine .of_whenAnswering hw he ?_
    split
    · exact .beginRestart hr
    · exact .of_same hw rfl
  case meterProfileCommit =>
    refine .of_commit hw he fun v hv => .of_same (State.windowsLaw_of_loads hw hv) ?_
    simp only [State.commitMeter]
    split
    · rfl
    · exact v.refuseIf_loads _
  case budgetProfileCommit =>
    exact .of_commit hw he fun v hv => .of_same (State.windowsLaw_of_loads hw hv) (State.commitBudget_loads ..)
  case restTableCommit =>
    refine .of_commit hw he fun v hv => .of_same (State.windowsLaw_of_loads hw hv) ?_
    simp only [State.commitRest]
    split
    · split <;> rfl
    · exact v.refuseIf_loads _
  case setReserve | clearAnchor => exact .of_command hw he fun v hv => .of_same (State.windowsLaw_of_loads hw hv) rfl
  case saveProfile =>
    refine .of_command hw he fun v hv => .of_same (State.windowsLaw_of_loads hw hv) ?_
    unfold State.saveProfile
    split <;> rfl
  case clearFault =>
    refine .of_command hw he fun v hv => ?_
    split
    · exact .clearFault (State.windowsLaw_of_loads hw hv)
    · exact .of_same (State.windowsLaw_of_loads hw hv) rfl
  case forgetDraw =>
    refine .of_command hw he fun v hv => ?_
    split
    · unfold State.forgetDraw
      split
      · exact .of_modify (State.windowsLaw_of_loads hw hv) (f := fun r => { r with learnedDraw := none }) ⟨rfl, rfl⟩
      · exact .of_same (State.windowsLaw_of_loads hw hv) rfl
    · exact .of_same (State.windowsLaw_of_loads hw hv) rfl
  case loadCommit m d =>
    refine .of_commit hw he fun v _ => .of_sweep fun n hn _ _ => .inl ?_
    have hn : n ≠ m := hn
    split
    · rw [State.load_of_others (v.commitHeld_others m _ _) hn]
    · rw [State.load_of_others (v.commitVacant_others m _ _) hn]

theorem exec_windowsKept {c : Instr} (hw : s.windowsLaw) (hr : s.recordsLaw) (he : exec c s = .next t) :
    s.WindowsKept (Exempt c) t := by
  by_cases hp : OverPort c
  case pos => exact exec_windowsKept_of_port hp hw hr he
  cases c <;> try exact absurd trivial hp
  case powerOn =>
    obtain rfl := Host.Outcome.next.inj he
    refine .of_dark (fun n => ?_) fun n => ?_
    all_goals rw [State.load_poweredOn]
    rfl
  case lossOfPower cut =>
    have hdefault := State.load_poweredOn s.port.address (storeAfterLoss s.store.saving s.store.image cut) s.pending
    exact .of_whenPowered hw he (.of_dark (fun n => congrArg Load.window (hdefault n)) fun n =>
      congrArg Load.on (hdefault n))
  case startupStage2 =>
    refine .of_whenPowered hw he ?_
    split
    · refine .of_same hw ?_
      simp only [State.stage2]
      split <;> rfl
    · exact .of_same hw rfl
  case startupStage3 =>
    refine .of_whenPowered hw he ?_
    split
    case h_2 => exact .of_same hw rfl
    case h_1 kept _ =>
      split
      case isFalse => exact .of_same hw rfl
      case isTrue hd =>
        have hready : s.startup.ready = false := by simpa using (Bool.and_eq_true_iff.mp hd).1
        refine .of_loads (u := (s.entriesRebuilt kept).essentialSweep.sweepWindows) (.of_sweep fun n _ hl hlit => ?_)
          (State.loads_ext _ (s.load_stage3 kept))
        have hs : s.Dormant := hl hready
        exact absurd hlit.on (by simp [hs.off n])
  case saveCompletion found =>
    refine .of_whenPowered hw he ?_
    split
    · exact .completeSave hw hr _ found
    · exact .of_same hw rfl
  case captureTick => exact .of_whenPowered hw he (.of_same hw rfl)
  case quietExpiry | fullSync | setupLevelChange | holdAssertion =>
    refine .of_whenPowered hw he ?_
    split <;> exact .of_same hw rfl
  case restReAnchor =>
    refine .of_whenPowered hw he ?_
    simp only [State.restReAnchor]
    split
    · split <;> exact .of_same hw rfl
    · exact .of_same hw rfl
  case pulse d =>
    refine .of_whenPowered hw he ?_
    split
    case isFalse => exact .of_same hw rfl
    case isTrue =>
      refine .of_openings hw (fun n => ?_) (fun n o => ?_) fun n hn => absurd trivial hn
      · rw [State.takePulse, State.load_mapLoads]
        rfl
      · rw [State.takePulse, State.load_mapLoads]
        exact Window.opening_of_seePulse
  case sampleTick code =>
    refine .of_whenPowered hw he (.of_takeWork hw ?_)
    refine .of_openings hw (fun n => ?_) (fun n o => ?_) fun n hn => absurd trivial hn
    · rw [State.load_sampleTick, Load.closeWindow_keeps]
      rfl
    · rw [State.load_sampleTick]
      exact Load.opening_of_closeWindow
  case evaluation =>
    refine .of_whenPowered hw he (.of_takeWork hw ?_)
    split
    · exact .evaluate
    · exact .of_same hw rfl
  case minOffExpiry =>
    refine .of_whenPowered hw he (.of_takeWork hw ?_)
    split
    · exact .essentialSweep
    · exact .of_same hw rfl
  case dwellIncrement =>
    refine .of_whenPowered hw he (.of_takeWork hw (.of_still hw fun n => ?_))
    rw [State.load_mapLoads]
    unfold Load.dwellTick
    split <;> exact ⟨rfl, rfl⟩
  case settleEnd m =>
    refine .of_whenPowered hw he (.of_takeWork hw ?_)
    have hsettle := fun r => Load.settleTick_keeps r
    refine .of_openings hw (fun n => ?_) (fun n o => ?_) fun n hn _ _ => ?_
    all_goals by_cases hnm : n = m
    · rw [hnm, State.load_modify_self]
      exact (hsettle _).1
    · rw [State.load_modify_of_ne _ _ hnm]
    · rw [hnm, State.load_modify_self, (hsettle _).2]
      exact id
    · rw [State.load_modify_of_ne _ _ hnm]
      exact id
    · exact absurd hnm hn
    · rw [State.load_modify_of_ne _ _ hnm]
  case cleanRun m =>
    refine .of_whenPowered hw he (.of_takeWork hw (.of_modify (s := s.workTaken (.cleanRun m)) hw ?_))
    unfold Load.cleanRunTick
    split <;> exact ⟨rfl, rfl⟩
  case holdLimitExpiry m =>
    exact .of_whenPowered hw he (.of_takeWork hw (.holdLimitTick (s := s.workTaken (.holdLimit m)) hw (hr m)))
  case minOnReached m =>
    exact .of_whenPowered hw he (.of_takeWork hw (.minOnCheck (s := s.workTaken (.minOn m)) hw (hr m)))
  case retryExpiry m => exact .of_whenPowered hw he (.of_takeWork hw (.retryTick (s := s.workTaken (.retry m)) hw))
  case stableLevelChange m =>
    refine .of_whenPowered hw he ?_
    split
    case isFalse => exact .of_same hw rfl
    case isTrue =>
      refine .from_same (v := s.switchToggled m) (.of_sweep fun n _ _ hlit => ?_) rfl rfl
      by_cases hnm : n = m
      · subst hnm
        exact State.fate_switchEvent (s := s.switchToggled n) (hr n) hlit _
      · rw [State.load_of_others ((s.switchToggled m).switchEvent_others m _) hnm]
        exact .same _
  case holdRelease l =>
    refine .of_whenPowered hw he ?_
    split
    case isFalse => exact .of_same hw rfl
    case isTrue =>
      refine .from_same (v := s.holdToggled l) (.of_sweep fun n _ _ hlit => ?_) rfl rfl
      have hwaits : ¬((s.holdToggled l).load n).waitsOn l = true := fun h =>
        hlit.not_deferred (Load.waitsOn_iff.mp h).1
      rw [State.load_releaseHold, Load.afterRelease, if_neg hwaits]
      exact .same _
  case forceOffAssertion =>
    refine .of_whenPowered hw he ?_
    split
    case isFalse => exact .of_same hw rfl
    case isTrue =>
      refine .of_dark (fun n => ?_) fun n => ?_
      all_goals rw [State.load_forceOffAsserted]
      exact (s.load n).forcedOff_off
  case forceOffRelease =>
    refine .of_whenPowered hw he ?_
    split
    case isFalse => exact .of_same hw rfl
    case isTrue => exact .from_same (v := { s with forceOff := ⟨false, 0⟩ }) .essentialSweep rfl rfl
  case trip m =>
    refine .of_whenPowered hw he ?_
    split
    case isFalse => exact .of_same hw rfl
    case isTrue =>
      refine .of_sweep fun n _ _ _ => ?_
      rw [State.load_tripRecord]
      split
      case isFalse => exact .same _
      case isTrue hnm =>
        refine .inr ⟨?_, fun h => by simpa [Load.tripOff_off] using h.on⟩
        simp only [Load.tripOff]
        split <;> rfl
  case lineTick l =>
    refine .of_whenPowered hw he (.of_takeWork hw (.of_still hw fun n => ?_))
    rw [State.load_lineTick]
    obtain ⟨hs, -, hwin⟩ := Load.diagTick_keeps (lineFaulty l n) ((s.workTaken .line).load n)
    exact ⟨by simp only [Load.on, hs], hwin⟩

/-! ## The windows of one record -/

/-- A commit of a load record changes no line of another channel. -/
theorem exec_loadCommit_outputs {d : Vector Byte 28} (he : exec (.loadCommit n d) s = .next t) (hm : m ≠ n) :
    t.outputs[m] = s.outputs[m] := by
  have hsame : (t.load m).on = (s.load m).on := by
    refine of_whenAnswering (I := fun t => (t.load m).on = (s.load m).on) he rfl fun _ _ => ?_
    let v : State := { s with port := s.port.reach .load n.val }
    show ((v.commitLoad n s.port.mask (loadWordsOf d)).load m).on = _
    rw [State.commitLoad, State.load_sweepWindows]
    split
    · rw [State.load_of_others (v.commitHeld_others n _ _) hm]
      rfl
    · rw [State.load_of_others (v.commitVacant_others n _ _) hm]
      rfl
  rw [State.outputs_get, State.outputs_get, hsame]

/-- The exempt events that may change an output line are the commits. -/
theorem exec_exempt_outputs {c : Instr} (hc : Exempt c n) (he : exec c s = .next t) (hm : m ≠ n) :
    t.outputs[m] = s.outputs[m] := by
  rw [State.outputs_get, State.outputs_get]
  cases c <;> try exact hc.elim
  case pulse d =>
    refine of_whenPowered (I := fun t => (t.load m).on = (s.load m).on) he rfl fun _ => ?_
    split
    · rw [State.takePulse, State.load_mapLoads]
      rfl
    · rfl
  case sampleTick code =>
    refine of_whenPowered (I := fun t => (t.load m).on = (s.load m).on) he rfl fun _ => of_takeWork (I := fun t =>
      (t.load m).on = (s.load m).on) rfl fun _ => ?_
    rw [State.load_sampleTick, Load.closeWindow_keeps]
    rfl
  case settleEnd k =>
    obtain rfl : n = k := hc
    refine of_whenPowered (I := fun t => (t.load m).on = (s.load m).on) he rfl fun _ => of_takeWork (I := fun t =>
      (t.load m).on = (s.load m).on) rfl fun _ => ?_
    rw [State.load_modify_of_ne _ _ hm]
    rfl
  case loadCommit k d =>
    obtain rfl : n = k := hc
    have := exec_loadCommit_outputs he hm
    rwa [State.outputs_get, State.outputs_get] at this

/-- Settles O58: the three laws of the outputs, and the fate of every open window. -/
theorem outputsStayOffWhereTheyMust : Obligations.OutputsStayOffWhereTheyMust := by
  refine ⟨fun s t hl hf ho h => ?laws, fun s t hw hr h => ?windows, fun c s t n hw hr hl he hopen ⟨m, hm, hchange⟩ => ?changed,
    fun c s t n hw hr hl he hpulse hsample hsettle hcommit hlit hstate _ hlines => ?kept⟩
  case laws =>
    obtain ⟨hl, hf, ho⟩ := step_keeps (I := fun s => s.loadingLaw ∧ s.Restrained) (fun _ _ h => h)
      (fun c s t h he => ⟨exec_loadingLaw h.1 he, exec_restrained h.1 h.2 he⟩) ⟨hl, hf, ho⟩ h
    exact ⟨hl, hf, ho⟩
  case windows =>
    unfold step at h
    split at h
    case h_1 => exact Host.Outcome.next.inj h ▸ hw
    case h_2 c rest _ => exact (exec_windowsKept (s := { s with pending := rest }) hw hr h).law
  case changed =>
    have hlit := (hr n).lit hopen
    by_cases hc : Exempt c n
    · exact absurd (exec_exempt_outputs hc he hm).symm hchange
    · obtain hstep | ⟨hclosed, -⟩ := (exec_windowsKept hw hr he).record n hc hl hlit
      · rw [hstep]
        exact Window.leftIn_of_changed fun o ho => ⟨m, hm, by rw [hw n o ho m hm]; exact hchange⟩
      · exact hclosed
  case kept =>
    obtain ⟨hr, -⟩ := State.listsInOrder_iff.mp hr
    have hc : ¬Exempt c n := by
      intro hc
      cases c <;> try exact hc.elim
      case pulse d => exact hpulse d rfl
      case sampleTick code => exact hsample code rfl
      case settleEnd k => exact hsettle (hc ▸ rfl)
      case loadCommit k d => exact hcommit d (hc ▸ rfl)
    obtain hstep | ⟨-, hnot⟩ := (exec_windowsKept hw hr he).record n hc hl hlit
    · rw [hstep]
      exact Window.leftIn_of_lines fun o ho m hm => (hw n o ho m hm).trans (hlines m hm).symm
    · exact absurd (by rwa [Load.Lit, hstate]) hnot

end

end Sys2Proof.Machine
end

section
/-! PROOFS. The essential sweep (R102, R103, R147): it starts the eligible class 0 records of the Standby List, in its order, as
far as stamps are left. -/

namespace Sys2Proof.Machine

/-- The stamps that the counter has left (R90). -/
def Engine.stampsLeft (e : Engine) : Nat := if e.exhausted then 0 else 4294967296 - e.seq

/-- A class 0 record that is eligible (R79, R102). -/
def State.essentialDue (s : State) (n : Channel) : Bool :=
  !s.forceOff.level && (s.load n).cls == 0 && decide ((s.load n).minOff ≤ (s.load n).dwell)

/-- The counter is in its range, and an exhausted one at its last value (R90). -/
def Engine.Counts (e : Engine) : Prop := e.seq ≤ 4294967295 ∧ (e.exhausted = true → e.seq = 4294967295)

theorem Engine.Counts.stamped {e : Engine} (h : e.Counts) : e.stamped.Counts := by
  obtain ⟨hseq, hx⟩ := h
  unfold Engine.stamped
  split
  case isTrue hlt => exact ⟨hlt, fun h => by have := hx h; omega⟩
  case isFalse hge => exact ⟨hseq, fun _ => Nat.le_antisymm hseq (Nat.not_lt.mp hge)⟩

/-- While a stamp is left after it, a stamp issued moves the counter (R90). -/
theorem Engine.seq_stamped {e : Engine} (h : e.stamped.exhausted = false) : e.stamped.seq = e.seq + 1 := by
  unfold Engine.stamped at h ⊢
  split
  · rfl
  · next hge =>
    rw [if_neg hge] at h
    cases h

/-- A stamp issued is one stamp fewer (R90). -/
theorem Engine.stampsLeft_stamped {e : Engine} (h : e.Counts) : e.stamped.stampsLeft = e.stampsLeft - 1 := by
  obtain ⟨hseq, hx⟩ := h
  unfold Engine.stampsLeft Engine.stamped
  split
  case isTrue hlt =>
    cases he : e.exhausted
    · simp [he]
      omega
    · have := hx he
      omega
  case isFalse hge =>
    show 0 = (if e.exhausted = true then 0 else 4294967296 - e.seq) - 1
    split <;> omega

section
variable {s : State} {n m : Channel} {l : List Channel}

theorem State.essentialDue_of_others {t : State} (ha : t.apart = s.apart) (hm : t.load m = s.load m) :
    t.essentialDue m = s.essentialDue m := by
  have hforce : t.forceOff = s.forceOff := State.forceOff_of_apart ha
  simp only [State.essentialDue, hforce, hm]

theorem State.essentialCheck_of_due (hs : (s.load n).state = .standby) (hd : s.essentialDue n = true) :
    s.essentialCheck n = s.start n := by
  simp only [State.essentialDue, Bool.and_eq_true, Bool.not_eq_true', beq_iff_eq, decide_eq_true_eq] at hd
  obtain ⟨⟨hforce, hcls⟩, hdwell⟩ := hd
  exact State.essentialCheck_of hs hcls (State.eligible_iff.mpr ⟨hforce, hdwell⟩)

theorem State.essentialCheck_of_undue (hd : ¬s.essentialDue n = true) : s.essentialCheck n = s := by
  refine State.essentialCheck_of_not fun ⟨hcls, helig, _⟩ => hd ?_
  obtain ⟨hforce, hdwell⟩ := State.eligible_iff.mp helig
  simp [State.essentialDue, hforce, hcls, hdwell]

/-- The checks of a list are the starts of its first due records, as many as stamps are left. -/
theorem State.foldl_essentialCheck (hl : l.Nodup) (hs : ∀ m ∈ l, (s.load m).state = .standby) (hc : s.engine.Counts) :
    l.foldl (fun t m => t.essentialCheck m) s
      = ((l.filter s.essentialDue).take s.engine.stampsLeft).foldl (fun t m => t.start m) s := by
  induction l generalizing s with
  | nil => simp
  | cons n l ih =>
    obtain ⟨hn, hl⟩ := List.nodup_cons.mp hl
    have hsl : ∀ m ∈ l, (s.load m).state = .standby := fun m hm => hs m (List.mem_cons_of_mem _ hm)
    rw [List.foldl_cons]
    by_cases hd : s.essentialDue n = true
    case neg => rw [State.essentialCheck_of_undue hd, ih hl hsl hc, List.filter_cons_of_neg hd]
    case pos =>
      rw [State.essentialCheck_of_due (hs n List.mem_cons_self) hd, List.filter_cons_of_pos hd]
      by_cases hx : s.engine.exhausted = true
      case pos =>
        have hleft : s.engine.stampsLeft = 0 := by rw [Engine.stampsLeft, if_pos hx]
        rw [State.start_refused _ (fun h => by rw [hx] at h; exact absurd h.2 nofun), ih hl hsl hc, hleft, List.take_zero,
          List.take_zero]
      case neg =>
        have hx : s.engine.exhausted = false := by simpa using hx
        have hstandby := hs n List.mem_cons_self
        have hengine := State.engine_start hstandby hx
        have hother : ∀ m ∈ l, (s.start n).load m = s.load m := fun m hm =>
          State.load_of_others (s.start_others n) fun he => hn (he ▸ hm)
        have hdue : l.filter (s.start n).essentialDue = l.filter s.essentialDue :=
          List.filter_congr fun m hm => State.essentialDue_of_others (s.start_apart n) (hother m hm)
        have hcounts : (s.start n).engine.Counts := by
          rw [hengine]
          exact hc.stamped
        have hleft : (s.start n).engine.stampsLeft = s.engine.stampsLeft - 1 := by
          rw [hengine]
          exact Engine.stampsLeft_stamped hc
        have hpos : s.engine.stampsLeft = (s.engine.stampsLeft - 1) + 1 := by
          have := hc.1
          rw [Engine.stampsLeft, if_neg (by simp [hx])]
          omega
        rw [ih hl (fun m hm => by rw [hother m hm, hsl m hm]) hcounts, hdue, hleft, hpos, List.take_succ_cons,
          List.foldl_cons, Nat.add_sub_cancel]

/-! ## Starts one after the other -/

/-- The records of a list started in its order. -/
def State.startAll (l : List Channel) (s : State) : State := l.foldl (fun t m => t.start m) s

theorem State.startAll_apart (l : List Channel) (s : State) : (s.startAll l).apart = s.apart :=
  foldl_keeps (fun t : State => t.apart) (fun t m => t.start_apart m) l s

theorem State.load_startAll_of_not_mem (hn : n ∉ l) : (s.startAll l).load n = s.load n := by
  unfold State.startAll
  induction l generalizing s with
  | nil => rfl
  | cons m l ih =>
    obtain ⟨hm, hl⟩ : n ≠ m ∧ n ∉ l := by simpa using hn
    rw [List.foldl_cons, ih hl, State.load_of_others (s.start_others m) hm]

/-- The records of a list can be started: each stands in STANDBY, and a stamp is left for each. -/
structure State.Startable (s : State) (l : List Channel) : Prop where
  nodup : l.Nodup
  standby : ∀ m ∈ l, (s.load m).state = .standby
  listed : s.engine.standbyList.Nodup
  counts : s.engine.Counts
  stamps : l.length ≤ s.engine.stampsLeft

theorem State.Startable.stampLeft (h : s.Startable (n :: l)) : s.engine.exhausted = false := by
  have hstamps := h.stamps
  unfold Engine.stampsLeft at hstamps
  cases hx : s.engine.exhausted with
  | false => rfl
  | true => simp [hx] at hstamps

theorem State.Startable.engine (h : s.Startable (n :: l)) : (s.start n).engine = { s.engine.stamped with
    spacing := 0, runList := s.engine.runList ++ [n], standbyList := s.engine.standbyList.erase n } :=
  State.engine_start (h.standby n List.mem_cons_self) h.stampLeft

theorem State.Startable.tail (h : s.Startable (n :: l)) : (s.start n).Startable l := by
  obtain ⟨hn, hl⟩ := List.nodup_cons.mp h.nodup
  refine ⟨hl, fun m hm => ?_, ?_, ?_, ?_⟩
  · rw [State.load_of_others (s.start_others n) fun he => hn (he ▸ hm)]
    exact h.standby m (List.mem_cons_of_mem _ hm)
  · rw [h.engine]
    exact h.listed.erase n
  · rw [h.engine]
    exact h.counts.stamped
  · rw [h.engine]
    have hleft := Engine.stampsLeft_stamped h.counts
    have hlen := h.stamps
    rw [List.length_cons] at hlen
    show l.length ≤ s.engine.stamped.stampsLeft
    omega

/-- The engine after the starts (R90, R93, R94). -/
theorem State.Startable.engine_startAll (h : s.Startable l) : (s.startAll l).engine = { s.engine with
    runList := s.engine.runList ++ l
    standbyList := s.engine.standbyList.filter fun m => !l.contains m
    seq := min (s.engine.seq + l.length) 4294967295
    exhausted := s.engine.exhausted || decide (4294967295 < s.engine.seq + l.length)
    spacing := if l.isEmpty then s.engine.spacing else 0 } := by
  induction l generalizing s with
  | nil =>
    have hmin : min s.engine.seq 4294967295 = s.engine.seq := Nat.min_eq_left h.counts.1
    have hlast : decide (4294967295 < s.engine.seq) = false := by simpa using h.counts.1
    simp [State.startAll, hmin, hlast]
  | cons n l ih =>
    have hseq := h.counts.1
    have hlist : (s.engine.standbyList.erase n).filter (fun m => !l.contains m)
        = s.engine.standbyList.filter fun m => !(n :: l).contains m := by
      rw [h.listed.erase_eq_filter, List.filter_filter]
      refine List.filter_congr fun m _ => ?_
      by_cases hm : m = n <;> simp [hm]
    have hstep : (s.startAll (n :: l)).engine = ((s.start n).startAll l).engine := rfl
    rw [hstep, ih h.tail, h.engine]
    unfold Engine.stamped
    simp only [List.isEmpty_cons, ite_self, Bool.false_eq_true, if_false, List.length_cons]
    split
    case isTrue hlt =>
      simp only [Engine.mk.injEq, hlist, List.append_assoc, List.singleton_append, true_and, and_true]
      exact ⟨by omega, by simp [h.stampLeft, Nat.add_assoc, Nat.add_comm 1]⟩
    case isFalse hge =>
      simp only [Engine.mk.injEq, hlist, List.append_assoc, List.singleton_append, true_and, and_true]
      exact ⟨by omega, by simp; omega⟩

/-- The records after the starts, at the end of the event: each is started with its own stamp, and only the window of the last
stays open, for a start after it changes an output line (R98, R159, R164). -/
theorem State.Startable.load_startAll (h : s.Startable l) (hn : n ∈ l) :
    let t := (s.startAll l).sweepWindows
    let r := (s.load n).startsNow (s.engine.seq + l.idxOf n) s t
    t.load n = if l.getLast? = some n then r else { r with window := .closed } := by
  induction l generalizing s n with
  | nil => cases hn
  | cons k l ih =>
    obtain ⟨hk, hl⟩ := List.nodup_cons.mp h.nodup
    have hstep : s.startAll (k :: l) = (s.start k).startAll l := rfl
    rw [hstep]
    intro t r
    obtain rfl | hnl := List.mem_cons.mp hn
    case inr =>
      have hnk : n ≠ k := fun he => hk (he ▸ hnl)
      have hload := ih h.tail hnl
      have hsense : (s.start k).sense = s.sense := State.sense_of_apart (s.start_apart k)
      have hseq : (s.start k).engine.seq = s.engine.seq + 1 := by
        obtain ⟨j, l', rfl⟩ := List.exists_cons_of_ne_nil (List.ne_nil_of_mem hnl)
        have hx := h.tail.stampLeft
        rw [h.engine] at hx ⊢
        exact Engine.seq_stamped hx
      have hlast : (k :: l).getLast? = l.getLast? := by
        obtain ⟨j, l', rfl⟩ := List.exists_cons_of_ne_nil (List.ne_nil_of_mem hnl)
        exact List.getLast?_cons_cons
      have hstamp : s.engine.seq + 1 + l.idxOf n = s.engine.seq + (k :: l).idxOf n := by
        rw [List.idxOf_cons_ne _ hnk.symm]
        omega
      rw [State.load_of_others (s.start_others k) hnk, hseq, hstamp] at hload
      rw [hlast]
      simpa only [Load.startsNow, hsense] using hload
    case inl =>
      have hstandby := h.standby n List.mem_cons_self
      have hstart := s.load_start hstandby h.stampLeft n
      rw [if_pos rfl] at hstart
      cases l with
      | nil =>
        have hload := State.load_start_sweep hstandby h.stampLeft
        simpa [t, r, State.startAll] using hload
      | cons j l =>
        have hlast : (n :: j :: l).getLast? ≠ some n := fun he => by
          rw [List.getLast?_cons_cons] at he
          exact hk (List.mem_of_getLast? he)
        have hidx : (n :: j :: l).idxOf n = 0 := List.idxOf_cons_self
        have hj : j ≠ n := fun he => hk (he ▸ List.mem_cons_self)
        have hnow : t.outputs[j] = true := by
          have hload : t.load j = _ := ih (n := j) h.tail List.mem_cons_self
          rw [State.outputs_get, hload]
          split <;> rfl
        have hbefore : (s.linesAfterStart n)[j] = false := by
          have := h.standby j (List.mem_cons_of_mem _ List.mem_cons_self)
          simp [State.linesAfterStart, hj, Load.on, this]
        have hswept : ∀ w : Window, (∀ o ∈ w.opening, o.lines = s.linesAfterStart n) → w.leftIn n t = .closed :=
          fun w hw => Window.leftIn_of_changed fun o ho => ⟨j, hj, by rw [hw o ho, hbefore, hnow]; nofun⟩
        have hload : t.load n = { (s.start n).load n with
            window := ((s.start n).load n).window.leftIn n t } := by
          have := State.load_startAll_of_not_mem (s := s.start n) hk
          exact Load.sameButWindow_sweepWindows this
        rw [if_neg hlast, hload, hswept, hstart]
        · simp only [r, Load.started, hidx, Nat.add_zero]
        · rw [hstart]
          intro o ho
          dsimp only at ho
          split at ho
          · obtain rfl := Option.some.inj ho
            rfl
          · cases ho

/-- The essential sweep starts the due records of the Standby List, as many as stamps are left. -/
theorem State.essentialSweep_starts (h : s.listsInOrder) :
    s.Startable ((s.engine.standbyList.filter s.essentialDue).take s.engine.stampsLeft)
      ∧ s.essentialSweep = s.startAll ((s.engine.standbyList.filter s.essentialDue).take s.engine.stampsLeft) := by
  obtain ⟨-, hp⟩ := State.listsInOrder_iff.mp h
  obtain ⟨-, hstandby, -, hnodup⟩ := hp.lists
  have hsub := (List.take_sublist s.engine.stampsLeft (s.engine.standbyList.filter s.essentialDue)).trans
    (List.filter_sublist)
  have hmem : ∀ m ∈ s.engine.standbyList, (s.load m).state = .standby := fun m => (hstandby m).mp
  refine ⟨⟨hnodup.sublist hsub, fun m hm => hmem m (hsub.subset hm), hnodup, hp.counter, ?_⟩, ?_⟩
  · exact List.length_take_le _ _
  · exact State.foldl_essentialCheck hnodup hmem hp.counter

/-- Settles O35: both commands make the sweep of the part with its piece taken, or with FORCE_OFF released. -/
theorem essentialChecksStartEveryEligibleEssential : Obligations.EssentialChecksStartEveryEligibleEssential := by
  intro s hp hl
  refine ⟨fun hd => whenPowered_undue ?_ _, fun hd hr => ?_, fun check hdue => ?_⟩
  · simpa [Filter.due, filterLength] using fun h => hd.resolve_left (by simp [h])
  · refine (whenPowered_takeWork hp hd _).trans ?_
    rw [if_neg (by simp [hr])]
    rfl
  · intro u due left started
    have hu : u.listsInOrder := State.inOrder_of_same hl (by cases check <;> rfl) (by cases check <;> rfl)
    have hload : ∀ n, u.load n = s.load n := fun n => by cases check <;> rfl
    have hengine : u.engine = s.engine := by cases check <;> rfl
    have hsense : u.sense = s.sense := by cases check <;> rfl
    have hexec : exec (if check then .minOffExpiry else .forceOffRelease) s = .next u.essentialSweep.sweepWindows := by
      cases check with
      | true =>
        obtain ⟨hd, hr⟩ := hdue
        refine (whenPowered_takeWork hp hd _).trans ?_
        rw [if_pos (c := (s.workTaken .minOff).startup.ready = true) hr]
        rfl
      | false =>
        obtain ⟨hrun, hlevel⟩ := hdue
        exact whenPowered_due hp (by simp [Filter.due, filterLength, hrun, hlevel]) _
    obtain ⟨hstartable, hsweep⟩ := State.essentialSweep_starts hu
    have hdueEq : u.essentialDue = due := by
      funext n
      simp only [State.essentialDue, hload, due]
    rw [hdueEq, hengine] at hstartable hsweep
    have hstarted : (s.engine.standbyList.filter due).take s.engine.stampsLeft = started := rfl
    rw [hstarted] at hstartable hsweep
    refine ⟨_, hexec, ?_, fun n => ⟨fun hn => ?_, fun hn => ?_⟩⟩
    · have heng := hstartable.engine_startAll
      rw [hengine] at heng
      have ha : u.essentialSweep.sweepWindows.apart = u.apart := by simp
      have hport : u.essentialSweep.sweepWindows.port = u.port := by simp
      rw [← heng, ← hsweep]
      exact State.eq_of_port ha hport
    · have hrecord := hstartable.load_startAll hn
      rw [← hsweep, hload, hengine] at hrecord
      simpa only [Load.startsNow, hsense] using hrecord
    · have hrecord := State.load_startAll_of_not_mem (s := u) hn
      rw [← hsweep, hload] at hrecord
      exact Load.sameButWindow_sweepWindows hrecord

end

end Sys2Proof.Machine
end

section
/-! PROOFS. A commit of a load record: the port after it, enrolment and retirement (R11, R15, R16, R171, R174). -/

namespace Sys2Proof.Machine

/-- The part with the pointer on load record n (R169, log 14). -/
def State.atRecord (n : Channel) (s : State) : State := { s with port := s.port.reach .load n.val }

/-- What a commit of load record n with this mask and these words leaves of the records, the engine and the two marks. -/
def State.committedAs (n : Channel) (s u : State) : State :=
  { s with
    loads := u.loads, engine := u.engine
    port := { s.port.afterRecord .load n.val (if n.val = 11 then 0 else n.val + 1) with
      mask := none, refusedMark := u.port.refusedMark, flags := u.port.flags } }

section
variable {s : State} {n : Channel}

/-- The commit of a load record in READY (R12). -/
theorem exec_loadCommit (hp : s.powered = true) (hr : s.startup.ready = true) (d : Vector Byte 28) :
    exec (.loadCommit n d) s
      = .next (s.committedAs n ((s.atRecord n).commitLoad n s.port.mask (loadWordsOf d))) := by
  refine (whenAnswering_of hp hr _).trans (congrArg _ ?_)
  have heq := State.eq_of_apart ((s.atRecord n).commitLoad_apart n s.port.mask (loadWordsOf d))
  show { (s.atRecord n).commitLoad n s.port.mask (loadWordsOf d) with
      port := { ((s.atRecord n).commitLoad n s.port.mask (loadWordsOf d)).port.committed .load n.val with mask := none } } = _
  generalize (s.atRecord n).commitLoad n s.port.mask (loadWordsOf d) = u at heq ⊢
  refine (congrArg (fun x : State => ({ x with
    port := { x.port.committed .load n.val with mask := none } } : State)) heq).trans ?_
  have hport := Port.committed_reach (.inl rfl) s.port (index := n.val) u.port.flags u.port.refusedMark
  rw [nextIndex_load] at hport
  exact congrArg (fun p : Port => ({ s with loads := u.loads, engine := u.engine, port := p } : State)) hport

theorem Port.afterRecord_flags (space : Space) (index next : Nat) (p : Port) :
    (p.afterRecord space index next).flags = p.flags := by
  unfold Port.afterRecord
  split <;> rfl

/-- A commit that sets no flag. -/
theorem State.committedAs_of_flags {u : State} (h : u.port.flags = s.port.flags) :
    s.committedAs n u = { s with
      loads := u.loads, engine := u.engine
      port := { s.port.afterRecord .load n.val (if n.val = 11 then 0 else n.val + 1) with
        mask := none, refusedMark := u.port.refusedMark } } := by
  rw [State.committedAs, h, ← Port.afterRecord_flags .load n.val (if n.val = 11 then 0 else n.val + 1)]

theorem State.commitLoad_others (n : Channel) (mask : Option Wide) (w : LoadWords) (s : State) :
    s.othersSame n (s.commitLoad n mask w) := by
  unfold State.commitLoad
  split
  · exact State.othersSame_sweepWindows (s.commitHeld_others n mask w)
  · exact State.othersSame_sweepWindows (s.commitVacant_others n mask w)

theorem State.commitLoad_of_vacant (h : (s.load n).state = .vacant) (mask : Option Wide) (w : LoadWords) :
    s.commitLoad n mask w = (s.commitVacant n mask w).sweepWindows := by
  rw [State.commitLoad, if_neg (by simp [Load.enrolled, h])]

theorem State.commitLoad_of_enrolled (h : (s.load n).state ≠ .vacant) (mask : Option Wide) (w : LoadWords) :
    s.commitLoad n mask w = (s.commitHeld n mask w).sweepWindows := by
  rw [State.commitLoad, if_pos (by simp [Load.enrolled, h])]

/-! ## The codes (R9, R183) -/

theorem flagOfCode_isNone (b : Byte) : (flagOfCode b).isNone = true ↔ 2 ≤ b.toNat := by
  revert b; decide

theorem switchModeOfCode_isNone (b : Byte) : (switchModeOfCode b).isNone = true ↔ 4 ≤ b.toNat := by
  revert b; decide

theorem holdLineOfCode_isNone (b : Byte) : (holdLineOfCode b).isNone = true ↔ 5 ≤ b.toNat := by
  revert b; decide

theorem restartPolicyOfCode_isNone (b : Byte) : (restartPolicyOfCode b).isNone = true ↔ 2 ≤ b.toNat := by
  revert b; decide

/-- Where every code names a value, none is unknown. -/
theorem unknownCode_of_known {d : Vector Byte 28} (mask : Option Wide) (h1 : d[1].toNat < 2) (h3 : d[3].toNat < 2)
    (h9 : d[9].toNat < 4) (h10 : d[10].toNat < 5) (h11 : d[11].toNat < 2) (h20 : d[20].toNat < 2) :
    unknownCode mask (loadWordsOf d) = false := by
  have hf : ∀ b : Byte, b.toNat < 2 → (flagOfCode b).isNone = false := fun b hb => by
    rw [← Bool.not_eq_true, flagOfCode_isNone]; omega
  have hs : (switchModeOfCode d[9]).isNone = false := by
    rw [← Bool.not_eq_true, switchModeOfCode_isNone]; omega
  have hh : (holdLineOfCode d[10]).isNone = false := by
    rw [← Bool.not_eq_true, holdLineOfCode_isNone]; omega
  have hp : (restartPolicyOfCode d[20]).isNone = false := by
    rw [← Bool.not_eq_true, restartPolicyOfCode_isNone]; omega
  simp only [unknownCode, loadWordsOf, hf _ h1, hf _ h3, hf _ h11, hs, hh, hp, Bool.and_false, Bool.or_self]

/-! ## Retirement (R16) -/

theorem State.load_retire (s : State) (n : Channel) : (s.retire n).load n = {} := State.load_modify_self _ n _

/-- Settles O42: the retired record, and the frame of the commit. -/
theorem retirementReturnsDefaults : Obligations.RetirementReturnsDefaults := by
  intro s n d hp hr hsetup hv hd hmask
  have hwritten : writtenEnrolled s.port.mask (loadWordsOf d) = some false := by
    have hw : writes s.port.mask itemEnrolled = true := by
      cases hm : s.port.mask with
      | none => rfl
      | some m =>
        rw [hm] at hmask
        exact hmask
    rw [writtenEnrolled, if_pos hw]
    exact congrArg flagOfCode hd
  let v := s.atRecord n
  have hcommit : v.commitLoad n s.port.mask (loadWordsOf d)
      = ((v.retire n).refuseIf (unknownCode s.port.mask (loadWordsOf d))).sweepWindows := by
    rw [State.commitLoad_of_enrolled (s := v) hv, State.commitHeld, if_pos]
    rw [hwritten, show v.setup.level = true from hsetup]
    rfl
  have hothers := State.commitLoad_others n s.port.mask (loadWordsOf d) v
  have hexec := exec_loadCommit (n := n) hp hr d
  have hv' : s.atRecord n = v := rfl
  rw [hv', hcommit] at hexec
  rw [hcommit] at hothers
  refine ⟨_, hexec, ?_⟩
  have hretired := v.load_retire n
  rw [← State.load_refuseIf _ (unknownCode s.port.mask (loadWordsOf d))] at hretired
  have hengine : ((v.retire n).refuseIf (unknownCode s.port.mask (loadWordsOf d))).engine = { s.engine with
      runList := s.engine.runList.erase n, standbyList := s.engine.standbyList.erase n } := by
    rw [State.refuseIf_eq]
    rfl
  have hflags : ((v.retire n).refuseIf (unknownCode s.port.mask (loadWordsOf d))).port.flags = s.port.flags := by
    rw [State.refuseIf_eq]
    exact Port.reach_flags _ _ _
  have hmark : unknownCode s.port.mask (loadWordsOf d) = false →
      ((v.retire n).refuseIf (unknownCode s.port.mask (loadWordsOf d))).port.refusedMark = s.port.refusedMark := fun h => by
    rw [h]
    exact Port.reach_refusedMark _ _ _
  generalize (v.retire n).refuseIf (unknownCode s.port.mask (loadWordsOf d)) = u at *
  have hload : u.sweepWindows.load n = {} := by
    rw [State.load_sweepWindows_of_closed (by rw [hretired]), hretired]
  refine ⟨hload, ?_, hothers, ?_, fun ⟨h3, h9, h10, h11, h20⟩ => hmark (unknownCode_of_known _ ?_ h3 h9 h10 h11 h20)⟩
  · rw [State.outputs_get]
    exact congrArg Load.on hload
  · rw [← hengine]
    exact State.committedAs_of_flags hflags
  · rw [hd]
    decide

/-! ## Taking and refusing fields (R6, R8, R9) -/

theorem refuseInstall_released {α : Type} [DecidableEq α] (written : Bool) (held new : α) :
    refuseInstall false written held new = (written && decide (new ≠ held)) := by
  simp [refuseInstall]

theorem refuseInstallCode_released {α : Type} [DecidableEq α] (written : Bool) (held : α) (code : Option α) :
    refuseInstallCode false written held code = (written && decide (code ≠ some held)) := by
  cases code <;> simp [refuseInstallCode, refuseInstall]

theorem refuseInstallCode_asserted {α : Type} [DecidableEq α] (written : Bool) (held : α) (code : Option α) :
    refuseInstallCode true written held code = (written && code.isNone) := by
  cases code <;> simp [refuseInstallCode, refuseInstall]

theorem takeInstall_eq {α : Type} (setup written : Bool) (held new : α) :
    takeInstall setup written held new = if (setup && written) = true then new else held := by
  rw [takeInstall, Bool.and_comm]

theorem takeInstallCode_eq {α : Type} (setup written : Bool) (held : α) (code : Option α) :
    takeInstallCode setup written held code = if (setup && written) = true then code.getD held else held := by
  cases code
  · simp [takeInstallCode]
  · exact takeInstall_eq setup written held _

theorem clampDeclared_eq_default (h : Half) : clampDeclared h ≠ 100 ↔ h.toNat ≠ 100 := by
  unfold clampDeclared clampTo
  omega

theorem clampSettle_eq_default (b : Byte) : clampSettle b ≠ 2 ↔ b.toNat ≠ 2 := by
  unfold clampSettle clampTo
  omega

theorem clampMinTime_eq_default (h : Half) : clampMinTime h ≠ 0 ↔ h.toNat ≠ 0 := by
  unfold clampMinTime
  omega

theorem clampHoldLimit_eq_default (h : Half) : clampHoldLimit h ≠ 600 ↔ h.toNat ≠ 600 := by
  unfold clampHoldLimit clampTo
  omega

theorem clampRetryLimit_eq_default (b : Byte) : clampRetryLimit b ≠ 3 ↔ b.toNat ≠ 3 := by
  unfold clampRetryLimit
  omega

theorem clampRetryBase_eq_default (b : Byte) : clampRetryBase b ≠ 5 ↔ b.toNat ≠ 5 := by
  unfold clampRetryBase
  omega

theorem clampClass_eq_default (b : Byte) : clampClass b ≠ 7 ↔ b.toNat < 7 := by
  unfold clampClass
  omega

theorem flagOfCode_ne_false (b : Byte) : flagOfCode b ≠ some false ↔ b ≠ 0x00 := by
  revert b; decide

theorem flagOfCode_ne_true (b : Byte) : flagOfCode b ≠ some true ↔ b ≠ 0x01 := by
  revert b; decide

theorem flagOfCode_eq_true (b : Byte) : flagOfCode b = some true ↔ b = 0x01 := by
  revert b; decide

theorem switchModeOfCode_ne_default (b : Byte) : switchModeOfCode b ≠ some .none ↔ b ≠ 0x00 := by
  revert b; decide

theorem holdLineOfCode_ne_default (b : Byte) : holdLineOfCode b ≠ some none ↔ b ≠ 0x00 := by
  revert b; decide

theorem restartPolicyOfCode_ne_default (b : Byte) : restartPolicyOfCode b ≠ some .startOff ↔ b ≠ 0x00 := by
  revert b; decide

/-! ## A VACANT record (R11, R15) -/

/-- What a commit that does not enrol refuses (R11). -/
theorem vacantRefuses_iff (mask : Option Wide) (d : Vector Byte 28) :
    ({} : Load).vacantRefuses mask (loadWordsOf d) = true ↔
      (writes mask 1 = true ∧ d[1] ≠ 0x00) ∨ (writes mask 2 = true ∧ d[2].toNat < 7)
        ∨ (writes mask 3 = true ∧ d[3] ≠ 0x00) ∨ (writes mask 4 = true ∧ (be16 d[4] d[5]).toNat ≠ 100)
        ∨ (writes mask 8 = true ∧ d[8].toNat ≠ 2) ∨ (writes mask 9 = true ∧ d[9] ≠ 0x00)
        ∨ (writes mask 10 = true ∧ d[10] ≠ 0x00) ∨ (writes mask 11 = true ∧ d[11] ≠ 0x01)
        ∨ (writes mask 12 = true ∧ (be16 d[12] d[13]).toNat ≠ 0) ∨ (writes mask 14 = true ∧ (be16 d[14] d[15]).toNat ≠ 0)
        ∨ (writes mask 16 = true ∧ (be16 d[16] d[17]).toNat ≠ 600) ∨ (writes mask 18 = true ∧ d[18].toNat ≠ 3)
        ∨ (writes mask 19 = true ∧ d[19].toNat ≠ 5) ∨ (writes mask 20 = true ∧ d[20] ≠ 0x00) := by
  simp only [Load.vacantRefuses, Load.refusesInstall, refuseInstall_released, refuseInstallCode_released, Bool.or_eq_true,
    Bool.and_eq_true, decide_eq_true_eq, clampDeclared_eq_default, clampSettle_eq_default, clampMinTime_eq_default,
    clampHoldLimit_eq_default, clampRetryLimit_eq_default, clampRetryBase_eq_default, clampClass_eq_default,
    flagOfCode_ne_false, flagOfCode_ne_true, switchModeOfCode_ne_default, holdLineOfCode_ne_default,
    restartPolicyOfCode_ne_default, loadWordsOf, itemEnrolled, itemClass, itemRequest, itemDeclaredDraw, itemSettleTime,
    itemSwitchMode, itemHoldLine, itemLearnEnable, itemMinOn, itemMinOff, itemHoldLimit, itemRetryLimit, itemRetryBase,
    itemRestartPolicy]
  exact Iff.of_eq (by ac_rfl)

/-- Settles O41: the enrolled record field by field, or the default record and what is refused. -/
theorem commitAtVacantRecordEnrolsOrRefuses : Obligations.CommitAtVacantRecordEnrolsOrRefuses := by
  intro s n d hp hr hrecords hv named enrols
  have hnamed : ∀ item, named item = writes s.port.mask item := fun _ => rfl
  obtain ⟨-, -, -, -, -, -, -, hvacant⟩ := hrecords n
  have hdefault : s.load n = {} := hvacant hv
  let v := s.atRecord n
  have hcommit : v.commitLoad n s.port.mask (loadWordsOf d)
      = (v.commitVacant n s.port.mask (loadWordsOf d)).sweepWindows := State.commitLoad_of_vacant (s := v) hv _ _
  have hothers := State.commitLoad_others n s.port.mask (loadWordsOf d) v
  have henrols : enrols ↔ (v.setup.level && writtenEnrolled s.port.mask (loadWordsOf d) == some true) = true := by
    simp only [enrols, hnamed, Bool.and_eq_true, beq_iff_eq, writtenEnrolled]
    by_cases hw : writes s.port.mask 1 = true
    · rw [itemEnrolled, if_pos hw]
      rw [show (loadWordsOf d).enrolled = d[1] from rfl, flagOfCode_eq_true]
      exact ⟨fun ⟨hs, _, he⟩ => ⟨hs, he⟩, fun ⟨hs, he⟩ => ⟨hs, hw, he⟩⟩
    · rw [itemEnrolled, if_neg hw]
      simp [hw]
  have hexec := exec_loadCommit (n := n) hp hr d
  have hv' : s.atRecord n = v := rfl
  rw [hv', hcommit] at hexec
  rw [hcommit] at hothers
  refine ⟨_, hexec, hothers, ?_, fun h => ?_, fun h => ?_⟩
  · have hengine : (v.commitVacant n s.port.mask (loadWordsOf d)).engine = s.engine := by
      unfold State.commitVacant
      split <;> rw [State.refuseIf_eq] <;> rfl
    have hflags : (v.commitVacant n s.port.mask (loadWordsOf d)).port.flags = s.port.flags := by
      unfold State.commitVacant
      split <;> rw [State.refuseIf_eq] <;> exact Port.reach_flags _ _ _
    refine (State.committedAs_of_flags (u := (v.commitVacant n s.port.mask (loadWordsOf d)).sweepWindows)
      hflags).trans ?_
    rw [State.sweepWindows_engine, hengine]
    rfl
  · have hvacated : v.commitVacant n s.port.mask (loadWordsOf d)
        = (v.modify n (Load.enrolledWith s.port.mask (loadWordsOf d))).refuseIf (unknownCode s.port.mask (loadWordsOf d)) :=
      if_pos (henrols.mp h)
    rw [hvacated]
    have hload : ((v.modify n (Load.enrolledWith s.port.mask (loadWordsOf d))).refuseIf
        (unknownCode s.port.mask (loadWordsOf d))).load n = ({} : Load).enrolledWith s.port.mask (loadWordsOf d) := by
      rw [State.load_refuseIf, State.load_modify_self]
      exact congrArg _ hdefault
    refine ⟨?_, fun ⟨h3, h9, h10, h11, h20⟩ => ?_⟩
    · refine (State.load_sweepWindows_of_closed (by rw [hload]; rfl)).trans (hload.trans ?_)
      simp only [hnamed, Load.enrolledWith, Load.takeFields, takeInstall_eq, takeInstallCode_eq, Bool.true_and]
      rfl
    · obtain ⟨-, -, he⟩ := h
      rw [unknownCode_of_known _ (by rw [he]; decide) h3 h9 h10 h11 h20]
      exact Port.reach_refusedMark _ _ _
  · have hkept : v.commitVacant n s.port.mask (loadWordsOf d)
        = v.refuseIf ((v.load n).vacantRefuses s.port.mask (loadWordsOf d)) := if_neg fun hc => h (henrols.mpr hc)
    have hvload : v.load n = {} := hdefault
    rw [hkept, hvload]
    refine ⟨?_, ?_⟩
    · have hload : (v.refuseIf (({} : Load).vacantRefuses s.port.mask (loadWordsOf d))).load n = {} := by
        rw [State.load_refuseIf, hvload]
      exact (State.load_sweepWindows_of_closed (by rw [hload])).trans hload
    · have hmark : (v.refuseIf (({} : Load).vacantRefuses s.port.mask (loadWordsOf d))).port.refusedMark
          = (s.port.refusedMark || ({} : Load).vacantRefuses s.port.mask (loadWordsOf d)) := by
        rw [State.refuseIf_eq]
        exact congrArg (· || _) (Port.reach_refusedMark _ _ _)
      simp only [hnamed]
      rw [← vacantRefuses_iff, ← Bool.or_eq_true, ← hmark]
      exact Iff.rfl

end

end Sys2Proof.Machine
end

section
/-! PROOFS. The stages of a commit at an enrolled record (R12): its fields, a moved hold wait, the class, the request and the
entry into FOLLOW. -/

namespace Sys2Proof.Machine

/-! ## What no event but a commit of the fields changes of a record -/

/-- The configured fields of a record with its learned draw and its retries: what the events of a commit leave. -/
def Load.config (r : Load) : Load :=
  { r with
    state := .vacant, cls := 0, request := false, reason := .none, shed := false, waitHold := false, waitMinOn := false
    dwell := 0, settleTimer := 0, holdTimer := 0, retryTimer := none, cleanRun := 0, requestStamp := none
    startStamp := none, window := .closed, blanking := 0, diagRun := 0 }

/-- The configured fields of one record. -/
def State.config (n : Channel) (s : State) : Load := (s.load n).config

section
variable (s : State) (n : Channel)

theorem State.config_modify {f : Load → Load} (h : (f (s.load n)).config = (s.load n).config) :
    (s.modify n f).config n = s.config n := by
  rw [State.config, s.load_modify_self]
  exact h

@[simp] theorem State.enterStandby_config : (s.enterStandby n).config n = s.config n := by
  rw [State.config, s.load_enterStandby, if_pos rfl]
  rfl

@[simp] theorem State.start_config : (s.start n).config n = s.config n := by
  by_cases h : (s.load n).state = .standby ∧ s.engine.exhausted = false
  · rw [State.config, s.load_start h.1 h.2, if_pos rfl]
    rfl
  · rw [State.start_refused s h]

@[simp] theorem State.essentialCheck_config : (s.essentialCheck n).config n = s.config n := by
  obtain h | ⟨h, -⟩ := s.essentialCheck_cases n <;> simp [h]

@[simp] theorem State.budgetCut_config : (s.budgetCut n).config n = s.config n := by
  by_cases h : (s.load n).on = true
  · rw [State.config, State.load_budgetCut_self h]
    rfl
  · rw [State.budgetCut, if_neg h]

@[simp] theorem State.cutToIdle_config : (s.cutToIdle n).config n = s.config n := by
  by_cases h : (s.load n).on = true
  · rw [State.config, State.load_cutToIdle_self h]
    rfl
  · rw [State.cutToIdle, if_neg h]

@[simp] theorem State.deferredCut_config : (s.deferredCut n).config n = s.config n := by
  obtain ⟨h, -⟩ | ⟨h, -⟩ := s.deferredCut_cases n <;> simp [h]

@[simp] theorem State.endHoldWait_config : (s.endHoldWait n).config n = s.config n := by
  have hm := s.config_modify n (f := fun r => { r with waitHold := false, holdTimer := 0 }) rfl
  simp only [State.endHoldWait, State.cutIfNoWait]
  split
  · rw [State.deferredCut_config, hm]
  · exact hm

@[simp] theorem State.moveHold_config (before : Option HoldLine) : (s.moveHold n before).config n = s.config n := by
  obtain ⟨h, -⟩ | ⟨h, -⟩ := s.moveHold_cases n before <;> simp [h]

@[simp] theorem State.refuse_config : s.refuse.config n = s.config n := rfl

@[simp] theorem State.changeClass_config (new : Nat) : (s.changeClass n new).config n = s.config n := by
  have hm := s.config_modify n (f := fun r => { r with cls := new }) rfl
  simp only [State.changeClass]
  split
  · rw [State.essentialCheck_config]
    exact hm
  · split
    · exact (State.config_modify _ n rfl).trans hm
    · exact hm
  all_goals exact hm

@[simp] theorem State.commitClass_config (mask : Option Wide) (w : LoadWords) (refused : Bool) :
    (s.commitClass n mask w refused).config n = s.config n := by
  unfold State.commitClass
  split
  · split <;> simp
  · rfl

@[simp] theorem State.takeRequestStamp_config : (s.takeRequestStamp n).config n = s.config n := by
  rw [State.config, s.load_takeRequestStamp]
  rfl

@[simp] theorem State.arriveOn_config : (s.arriveOn n).config n = s.config n := by
  unfold State.arriveOn
  split
  · rfl
  · split
    · simp
    · exact (State.config_modify _ n rfl).trans (s.takeRequestStamp_config n)
    all_goals simp

@[simp] theorem State.arriveOff_config : (s.arriveOff n).config n = s.config n := by
  have hm := s.config_modify n (f := fun r => { r with request := false }) rfl
  have hidle : ∀ t : State, (t.modify n Load.toIdle).config n = t.config n := fun t => t.config_modify n rfl
  simp only [State.arriveOff]
  split
  · exact (hidle _).trans hm
  · unfold State.offWhileOn
    split
    · exact (State.config_modify _ n rfl).trans hm
    · rw [State.cutToIdle_config, hm]
  · unfold State.offWhileOn
    split
    · exact (State.config_modify _ n rfl).trans hm
    · rw [State.cutToIdle_config, hm]
  · exact (State.config_modify _ n rfl).trans hm
  · exact (hidle _).trans hm
  all_goals rfl

@[simp] theorem State.setRequest_config (on : Bool) : (s.setRequest n on).config n = s.config n := by
  unfold State.setRequest
  split
  · rfl
  · split <;> simp

@[simp] theorem State.commitRequest_config (mask : Option Wide) (w : LoadWords) :
    (s.commitRequest n mask w).config n = s.config n := by
  unfold State.commitRequest
  split <;> simp

@[simp] theorem State.followEntered_config (before : SwitchMode) : (s.followEntered n before).config n = s.config n := by
  unfold State.followEntered
  split <;> simp

end

/-! ## An output that a single event leaves on (R144) -/

/-- A record on before and after keeps the counts of its line. -/
def Load.LineKept (r r' : Load) : Prop :=
  r.on = true → r'.on = true → r'.dwell = r.dwell ∧ r'.blanking = r.blanking ∧ r'.diagRun = r.diagRun

theorem Load.LineKept.of_counts {r r' : Load} (h : r'.dwell = r.dwell ∧ r'.blanking = r.blanking ∧ r'.diagRun = r.diagRun) :
    r.LineKept r' := fun _ _ => h

theorem Load.LineKept.of_off {r r' : Load} (h : r'.on = false) : r.LineKept r' := fun _ hon => by simp [h] at hon

theorem Load.LineKept.same (r : Load) : r.LineKept r := .of_counts ⟨rfl, rfl, rfl⟩

theorem Load.LineKept.of_on {r r' : Load} (h : r.on = true → r.LineKept r') : r.LineKept r' := fun hon => h hon hon

/-- There is nothing to give back to such a record. -/
theorem Load.LineKept.keepLine {r r' : Load} (h : r.LineKept r') : r.keepLine r' = r' := by
  unfold Load.keepLine
  split
  case isTrue hon =>
    obtain ⟨hr, hr'⟩ := Bool.and_eq_true_iff.mp hon
    obtain ⟨hdwell, hblanking, hdiag⟩ := h hr hr'
    rw [← hdwell, ← hblanking, ← hdiag]
  case isFalse => rfl

theorem State.modify_keepLine {s : State} {n : Channel} {r : Load} (h : r.LineKept (s.load n)) :
    s.modify n r.keepLine = s := s.modify_of_eq h.keepLine

section
variable {s : State} {n : Channel}

theorem State.lineKept_changeClass (new : Nat) : (s.load n).LineKept ((s.changeClass n new).load n) := by
  have hm := s.load_modify_self n fun r => { r with cls := new }
  intro hon _
  simp only [State.changeClass]
  split
  case h_1 hs => simp [Load.on, hs] at hon
  case h_2 hs =>
    split
    · rw [State.load_modify_self, hm]
      exact ⟨rfl, rfl, rfl⟩
    · rw [hm]
      exact ⟨rfl, rfl, rfl⟩
  all_goals rw [hm]; exact ⟨rfl, rfl, rfl⟩

theorem State.lineKept_commitClass (mask : Option Wide) (w : LoadWords) (refused : Bool) :
    (s.load n).LineKept ((s.commitClass n mask w refused).load n) := by
  unfold State.commitClass
  split
  · split
    · exact .of_counts ⟨rfl, rfl, rfl⟩
    · exact State.lineKept_changeClass _
  · exact .of_counts ⟨rfl, rfl, rfl⟩

theorem State.lineKept_setRequest (on : Bool) : (s.load n).LineKept ((s.setRequest n on).load n) := by
  have hask := s.load_modify_self n fun r => { r with request := false }
  refine .of_on fun hon => ?_
  have hoff : (s.load n).LineKept (((s.modify n fun r => { r with request := false }).offWhileOn n).load n) := by
    unfold State.offWhileOn
    split
    · refine .of_counts ?_
      rw [State.load_modify_self, hask]
      exact ⟨rfl, rfl, rfl⟩
    · refine .of_off ?_
      rw [State.load_cutToIdle_self (by rw [hask]; exact hon)]
      rfl
  unfold State.setRequest
  split
  · exact .same _
  split
  · unfold State.arriveOn
    split
    · exact .same _
    split
    case h_1 hs => simp [Load.on, hs] at hon
    case h_2 hs =>
      refine .of_counts ?_
      rw [State.load_modify_self, s.load_takeRequestStamp]
      exact ⟨rfl, rfl, rfl⟩
    case h_3 hs => simp [Load.on, hs] at hon
    all_goals exact .same _
  · simp only [State.arriveOff]
    split
    case h_1 hs => simp [Load.on, hs] at hon
    case h_2 => exact hoff
    case h_3 => exact hoff
    case h_4 hs =>
      refine .of_counts ?_
      rw [State.load_modify_self, hask]
      exact ⟨rfl, rfl, rfl⟩
    case h_5 hs => simp [Load.on, hs] at hon
    all_goals exact .same _

theorem State.lineKept_moveHold (before : Option HoldLine) : (s.load n).LineKept ((s.moveHold n before).load n) := by
  obtain ⟨h, -⟩ | ⟨h, hs, -⟩ := s.moveHold_cases n before
  · rw [h]
    exact .of_counts ⟨rfl, rfl, rfl⟩
  · rw [h, State.load_endHoldWait_self hs]
    split
    · exact .of_counts ⟨rfl, rfl, rfl⟩
    · refine .of_off ?_
      unfold Load.cutByCause
      split <;> rfl

/-! ## Stages that a commit does not name (R174) -/

/-- The items of the fields that no event follows but the hold line's and the mode's, with the enrolled field. -/
def fieldItems : List Nat := [1, 4, 8, 9, 10, 11, 12, 14, 16, 18, 19, 20]

/-- A commit that names no field of these leaves them. -/
theorem Load.withFields_of_unnamed {setup : Bool} {mask : Option Wide} {w : LoadWords} {r : Load}
    (h : ∀ i ∈ fieldItems, writes mask i = false) : r.withFields setup mask w = r := by
  simp only [fieldItems, List.forall_mem_cons] at h
  obtain ⟨-, h4, h8, h9, h10, h11, h12, h14, h16, h18, h19, h20, -⟩ := h
  simp only [Load.withFields, Load.takeFields, takeInstall_eq, takeInstallCode_eq, itemDeclaredDraw, itemSettleTime,
    itemSwitchMode, itemHoldLine, itemLearnEnable, itemMinOn, itemMinOff, itemHoldLimit, itemRetryLimit, itemRetryBase,
    itemRestartPolicy, h4, h8, h9, h10, h11, h12, h14, h16, h18, h19, h20, Bool.and_false, Bool.false_and,
    Bool.false_eq_true, if_false]

theorem Load.refuses_of_unnamed {setup : Bool} {mask : Option Wide} {w : LoadWords} {r : Load}
    (h : ∀ i ∈ fieldItems, writes mask i = false) :
    r.refuses setup mask w = (writes mask 3 && (flagOfCode w.request).isNone) := by
  have hcode : ∀ {α : Type} [DecidableEq α] (held : α) (code : Option α), refuseInstallCode setup false held code = false :=
    fun held code => by cases code <;> rfl
  have hfield : ∀ {α : Type} [DecidableEq α] (held new : α), refuseInstall setup false held new = false :=
    fun held new => rfl
  simp only [fieldItems, List.forall_mem_cons] at h
  obtain ⟨h1, h4, h8, h9, h10, h11, h12, h14, h16, h18, h19, h20, -⟩ := h
  simp only [Load.refuses, Load.refusesInstall, itemEnrolled, itemRequest, itemDeclaredDraw, itemSettleTime, itemSwitchMode,
    itemHoldLine, itemLearnEnable, itemMinOn, itemMinOff, itemHoldLimit, itemRetryLimit, itemRetryBase, itemRestartPolicy,
    h1, h4, h8, h9, h10, h11, h12, h14, h16, h18, h19, h20, hcode, hfield, Bool.false_and, Bool.or_false, Bool.false_or]

theorem State.moveHold_same (s : State) (n : Channel) : s.moveHold n (s.load n).holdLine = s := by
  simp [State.moveHold]

theorem State.moveHold_of_same {before : Option HoldLine} (h : (s.load n).holdLine = before) : s.moveHold n before = s :=
  h ▸ s.moveHold_same n

theorem State.followEntered_of_same {before : SwitchMode} (h : (s.load n).switchMode = before) :
    s.followEntered n before = s := by
  rw [State.followEntered, if_neg]
  rw [h]
  cases before <;> simp

theorem State.commitClass_of_unnamed {mask : Option Wide} (h : writes mask 2 = false) (w : LoadWords) (refused : Bool) :
    s.commitClass n mask w refused = s := by
  simp [State.commitClass, Load.classWritten, itemClass, h]

theorem State.commitRequest_of_unnamed {mask : Option Wide} (h : writes mask 3 = false) (w : LoadWords) :
    s.commitRequest n mask w = s := by
  simp [State.commitRequest, writtenRequest, itemRequest, h]

/-- The stage of the fields (R6, R8, R9, R14). -/
def State.commitFields (n : Channel) (mask : Option Wide) (w : LoadWords) (s : State) : State :=
  (s.modify n (Load.withFields s.setup.level mask w)).refuseIf ((s.load n).refuses s.setup.level mask w)

theorem State.load_commitFields (s : State) (n : Channel) (mask : Option Wide) (w : LoadWords) :
    (s.commitFields n mask w).load n = (s.load n).withFields s.setup.level mask w := by
  rw [State.commitFields, State.load_refuseIf, State.load_modify_self]

theorem State.commitFields_of_unnamed {mask : Option Wide} {w : LoadWords} (h : ∀ i ∈ fieldItems, writes mask i = false) :
    s.commitFields n mask w = s.refuseIf (writes mask 3 && (flagOfCode w.request).isNone) := by
  rw [State.commitFields, Load.refuses_of_unnamed h, s.modify_of_eq (Load.withFields_of_unnamed h)]

/-- The stages of a commit that leaves an enrolled record enrolled (R12). -/
theorem State.commitEnrolled_stages (s : State) (n : Channel) (mask : Option Wide) (w : LoadWords) :
    s.commitEnrolled n mask w =
      ((((((s.commitFields n mask w).moveHold n (s.load n).holdLine).commitClass n mask w
        (s.classRefused n (clampClass w.cls))).commitRequest n mask w).followEntered n
        (s.load n).switchMode).modify n (s.load n).keepLine) := s.commitEnrolled_eq n mask w

/-- A commit that does not retire an enrolled record (R12, R16). -/
theorem State.commitLoad_of_kept {mask : Option Wide} {w : LoadWords} (hv : (s.load n).state ≠ .vacant)
    (h : ¬(s.setup.level = true ∧ writtenEnrolled mask w = some false)) :
    s.commitLoad n mask w = (s.commitEnrolled n mask w).sweepWindows := by
  rw [State.commitLoad_of_enrolled hv, State.commitHeld, if_neg]
  simpa using h

end

end Sys2Proof.Machine
end

section
/-! PROOFS. A commit of the class alone and of the request alone (R10, R21, R80 to R87, R96, R102). -/

namespace Sys2Proof.Machine

section
variable {s : State} {n : Channel} {mask : Option Wide} {w : LoadWords}

/-- A commit of the class alone is its stage of the class (R12). -/
theorem State.commitLoad_class (hv : (s.load n).state ≠ .vacant) (hfields : ∀ i ∈ fieldItems, writes mask i = false)
    (hrequest : writes mask 3 = false) :
    s.commitLoad n mask w = (s.commitClass n mask w (s.classRefused n (clampClass w.cls))).sweepWindows := by
  have henrolled : writes mask 1 = false := hfields 1 (by simp [fieldItems])
  have hfields' : s.commitFields n mask w = s := by
    rw [State.commitFields_of_unnamed hfields, hrequest]
    rfl
  rw [State.commitLoad_of_kept hv (by simp [writtenEnrolled, itemEnrolled, henrolled]), State.commitEnrolled_stages, hfields',
    s.moveHold_same, State.commitRequest_of_unnamed hrequest, State.followEntered_of_same,
    State.modify_keepLine (State.lineKept_commitClass _ _ _)]
  have hmode := congrArg Load.switchMode (s.commitClass_config n mask w (s.classRefused n (clampClass w.cls)))
  exact hmode

/-- A commit of the request alone, by a code that names a value, is the arrival (R80). -/
theorem State.commitLoad_request (hv : (s.load n).state ≠ .vacant) (hfields : ∀ i ∈ fieldItems, writes mask i = false)
    (hclass : writes mask 2 = false) {on : Bool} (hon : writtenRequest mask w = some on) :
    s.commitLoad n mask w = (s.setRequest n on).sweepWindows := by
  have henrolled : writes mask 1 = false := hfields 1 (by simp [fieldItems])
  have hknown : (writes mask 3 && (flagOfCode w.request).isNone) = false := by
    unfold writtenRequest at hon
    split at hon
    · simp [hon]
    · cases hon
  have hfields' : s.commitFields n mask w = s := by
    rw [State.commitFields_of_unnamed hfields, hknown]
    rfl
  have hrequest : s.commitRequest n mask w = s.setRequest n on := by simp only [State.commitRequest, hon]
  rw [State.commitLoad_of_kept hv (by simp [writtenEnrolled, itemEnrolled, henrolled]), State.commitEnrolled_stages, hfields',
    s.moveHold_same, State.commitClass_of_unnamed hclass, hrequest, State.followEntered_of_same,
    State.modify_keepLine (State.lineKept_setRequest _)]
  have hmode := congrArg Load.switchMode (s.setRequest_config n on)
  exact hmode

/-! ## The class (R10, R21, R96) -/

theorem State.otherStarting_iff : s.otherStarting n = true ↔
    ∃ m : Channel, m ≠ n ∧ (s.load m).state = .starting ∧ (s.load m).cls ≠ 0 := by
  simp [State.otherStarting, mem_channels, and_assoc]

theorem State.classRefused_iff {c : Nat} : s.classRefused n c = true ↔
    (s.setup.level = false ∧ (c = 0 ∨ (s.load n).cls = 0))
      ∨ ((s.load n).cls = 0 ∧ (s.load n).state = .starting
        ∧ ∃ m : Channel, m ≠ n ∧ (s.load m).state = .starting ∧ (s.load m).cls ≠ 0) := by
  simp only [State.classRefused, Bool.or_eq_true, Bool.and_eq_true, Bool.not_eq_true', beq_iff_eq, State.otherStarting_iff,
    and_assoc]

/-- The stage of a class that is named (R8, R10). -/
theorem State.commitClass_of_named (hnamed : writes mask 2 = true) (refused : Bool) :
    s.commitClass n mask w refused = if clampClass w.cls = (s.load n).cls then s
      else if refused then s.refuse else s.changeClass n (clampClass w.cls) := by
  by_cases hc : clampClass w.cls = (s.load n).cls
  · simp [State.commitClass, Load.classWritten, itemClass, hc]
  · simp [State.commitClass, Load.classWritten, itemClass, hc, hnamed]

/-- The class of a STANDBY record: sorted in again, with the essential check. -/
theorem State.changeClass_of_standby (hs : (s.load n).state = .standby) (new : Nat) :
    s.changeClass n new
      = (((s.modify n fun r => { r with cls := new }).leaveStandby n).joinStandby n).essentialCheck n := by
  simp only [State.changeClass, hs]

theorem State.changeClass_of_budget (hs : (s.load n).state = .deferred) (hr : (s.load n).reason = .deferred .budget) :
    s.changeClass n 0 = (s.modify n fun r => { r with cls := 0 }).modify n Load.backToRunning := by
  simp only [State.changeClass, hs, hr, and_self, if_true]

theorem State.changeClass_of_other {new : Nat} (hs : (s.load n).state ≠ .standby)
    (hb : ¬((s.load n).state = .deferred ∧ new = 0 ∧ (s.load n).reason = .deferred .budget)) :
    s.changeClass n new = s.modify n fun r => { r with cls := new } := by
  simp only [State.changeClass]
  split
  case h_1 h => exact absurd h hs
  case h_2 h => exact if_neg fun hn => hb ⟨h, hn⟩
  all_goals rfl

/-- A STANDBY record sorted in again. -/
theorem State.sorted_in (s : State) (n : Channel) (new : Nat) :
    (((s.modify n fun r => { r with cls := new }).leaveStandby n).joinStandby n).load n = { s.load n with cls := new }
      ∧ (((s.modify n fun r => { r with cls := new }).leaveStandby n).joinStandby n).engine = { s.engine with
        standbyList := insertBy ((s.modify n fun r => { r with cls := new }).leaveStandby n).standbyBefore n
          (s.engine.standbyList.erase n) } :=
  ⟨s.load_modify_self n fun r => { r with cls := new }, rfl⟩

/-- Settles O44: the stage of the class, refused or taken by the record's state. -/
theorem classCommitIsRefusedOrTaken : Obligations.ClassCommitIsRefusedOrTaken := by
  intro s n d hp hr hl hmask hv r c refused
  let v := s.atRecord n
  have hcommit : v.commitLoad n s.port.mask (loadWordsOf d)
      = (v.commitClass n s.port.mask (loadWordsOf d) (v.classRefused n c)).sweepWindows := by
    refine State.commitLoad_class (s := v) hv ?_ ?_ <;> rw [hmask] <;> decide
  have hothers := State.commitLoad_others n s.port.mask (loadWordsOf d) v
  have hexec := exec_loadCommit (n := n) hp hr d
  have hv' : s.atRecord n = v := rfl
  rw [hv', hcommit] at hexec
  rw [hcommit] at hothers
  have hstage : v.commitClass n s.port.mask (loadWordsOf d) (v.classRefused n c)
      = if c = r.cls then v else if v.classRefused n c then v.refuse else v.changeClass n c :=
    State.commitClass_of_named (by rw [hmask]; decide) _
  have hrefused : v.classRefused n c = true ↔ refused := State.classRefused_iff (s := v)
  obtain ⟨hrecords, hplaced⟩ := State.listsInOrder_iff.mp hl
  obtain ⟨-, hstandby, -, hnodup⟩ := hplaced.lists
  rw [hstage] at hexec hothers
  have hflags : v.port.flags = s.port.flags := Port.reach_flags _ _ _
  have hmark : v.port.refusedMark = s.port.refusedMark := Port.reach_refusedMark _ _ _
  have hframe : ∀ u : State, u.port.flags = v.port.flags →
      u.port.refusedMark = (s.port.refusedMark || decide (c ≠ r.cls ∧ refused)) →
      s.committedAs n u.sweepWindows = { s with
        loads := u.sweepWindows.loads, engine := u.sweepWindows.engine
        port := { s.port.afterRecord .load n.val (if n.val = 11 then 0 else n.val + 1) with
          mask := none, refusedMark := s.port.refusedMark || decide (c ≠ r.cls ∧ refused) } } := fun u hf hm => by
    rw [State.committedAs_of_flags (u := u.sweepWindows) (hf.trans hflags)]
    exact congrArg (fun b => { s with
      loads := u.sweepWindows.loads, engine := u.sweepWindows.engine
      port := { s.port.afterRecord .load n.val (if n.val = 11 then 0 else n.val + 1) with
        mask := none, refusedMark := b } }) hm
  refine ⟨_, hexec, hothers, ?_⟩
  by_cases hc : c = r.cls
  · rw [if_pos hc]
    refine ⟨hframe v rfl (by simp [hmark, hc]), fun _ => ⟨Load.sameButWindow_sweepWindows rfl, rfl⟩, fun h => absurd hc h⟩
  rw [if_neg hc]
  by_cases hrf : refused
  · rw [if_pos (hrefused.mpr hrf)]
    exact ⟨hframe v.refuse rfl (by simp [State.refuse, hc, hrf]),
      fun _ => ⟨Load.sameButWindow_sweepWindows (s := v.refuse) rfl, rfl⟩, fun _ h => absurd hrf h⟩
  rw [if_neg fun h => hrf (hrefused.mp h)]
  have hport := v.changeClass_port n c
  refine ⟨hframe _ (by rw [hport]) (by rw [hport, hmark]; simp [hrf]), fun h => absurd h (by simp [hc, hrf]),
    fun _ _ => ⟨fun hs hzero hforce hdwell hx => ?_, fun hs hnot => ?_, fun hs hzero hreason => ?_, fun hs hnot => ?_⟩⟩
  · have hsorted := v.sorted_in n c
    rw [v.changeClass_of_standby hs]
    have hsense : (((v.modify n fun r => { r with cls := c }).leaveStandby n).joinStandby n).sense = s.sense := rfl
    have hforce' : (((v.modify n fun r => { r with cls := c }).leaveStandby n).joinStandby n).forceOff = s.forceOff := rfl
    generalize ((v.modify n fun r => { r with cls := c }).leaveStandby n).joinStandby n = x at hsorted hsense hforce' ⊢
    obtain ⟨hload, hengine⟩ := hsorted
    have hload : x.load n = { r with cls := 0 } := by rw [← hzero]; exact hload
    have hxs : (x.load n).state = .standby := by rw [hload]; exact hs
    have hxx : x.engine.exhausted = false := by rw [hengine]; exact hx
    have helig : x.eligible (x.load n) = true := by
      rw [hload, State.eligible_iff, hforce']
      exact ⟨hforce, hdwell⟩
    rw [State.essentialCheck_of hxs (by rw [hload]) helig]
    have hstart := State.load_start_sweep hxs hxx
    have hstarted := State.engine_start hxs hxx
    have hlist : x.engine.standbyList.erase n = s.engine.standbyList.erase n := by
      rw [hengine]
      exact erase_insertBy hnodup.not_mem_erase
    rw [hlist, hengine] at hstarted
    rw [hload, hengine] at hstart
    constructor
    · refine hstart.trans ?_
      simp only [Load.startsNow, hsense]
      rfl
    · refine hstarted.trans ?_
      unfold Engine.stamped
      by_cases hseq : s.engine.seq < 4294967295
      · rw [if_pos hseq, if_pos (c := v.engine.seq < 4294967295) hseq]
        rfl
      · rw [if_neg hseq, if_neg (c := v.engine.seq < 4294967295) hseq]
        rfl
  · have hsorted := v.sorted_in n c
    rw [v.changeClass_of_standby hs]
    have hforce' : (((v.modify n fun r => { r with cls := c }).leaveStandby n).joinStandby n).forceOff = s.forceOff := rfl
    generalize ((v.modify n fun r => { r with cls := c }).leaveStandby n).joinStandby n = x at hsorted hforce' ⊢
    obtain ⟨hload, hengine⟩ := hsorted
    have hcheck : x.essentialCheck n = x := by
      refine State.essentialCheck_of_not fun ⟨hcls, helig, hxx⟩ => hnot ?_
      rw [hload] at hcls helig
      rw [State.eligible_iff, hforce'] at helig
      rw [hengine] at hxx
      exact ⟨hcls, helig.1, helig.2, hxx⟩
    rw [hcheck]
    have hperm : x.engine.standbyList.Perm s.engine.standbyList := by
      rw [hengine]
      exact (insertBy_perm _ n _).trans (List.perm_cons_erase ((hstandby n).mpr hs)).symm
    exact ⟨Load.sameButWindow_sweepWindows hload, hperm, by rw [State.committedAs, State.sweepWindows_engine, hengine]; rfl⟩
  · have hchange := State.changeClass_of_budget (s := v) hs hreason
    have hload : ((v.modify n fun r => { r with cls := 0 }).modify n Load.backToRunning).load n
        = { r with
            cls := 0, state := .running, reason := .none, waitHold := false, waitMinOn := false, holdTimer := 0
            settleTimer := 0, cleanRun := 0 } := by
      rw [State.load_modify_self, State.load_modify_self]
      rfl
    have hengine : ((v.modify n fun r => { r with cls := 0 }).modify n Load.backToRunning).engine = s.engine := rfl
    rw [hzero, hchange]
    generalize (v.modify n fun r => { r with cls := 0 }).modify n Load.backToRunning = x at hload hengine ⊢
    exact ⟨hengine, Load.sameButWindow_sweepWindows hload⟩
  · rw [State.changeClass_of_other (s := v) hs hnot]
    refine ⟨Load.sameButWindow_sweepWindows ?_, rfl⟩
    rw [State.load_modify_self]
    rfl

theorem State.arriveOn_marks (s : State) (n : Channel) : (s.arriveOn n).port.refusedMark
    = (s.port.refusedMark || ((s.load n).state == .locked || s.engine.exhausted)) := by
  cases hx : s.engine.exhausted with
  | true => simp [State.arriveOn_of_exhausted hx, State.refuse]
  | false => rw [State.arriveOn_refusedMark hx, Bool.or_false]

/-- REFUSED is marked by ON at a LOCKED record or with the counter exhausted (R87, R90). -/
theorem State.setRequest_marks (s : State) (n : Channel) (on : Bool) : (s.setRequest n on).port.refusedMark
    = (s.port.refusedMark || (on && !(s.load n).request && ((s.load n).state == .locked || s.engine.exhausted))) := by
  cases hreq : (s.load n).request <;> cases on
  · simp [State.setRequest_same hreq]
  · simp [State.setRequest_on hreq, s.arriveOn_marks n]
  · simp [State.setRequest_off hreq]
  · simp [State.setRequest_same hreq]

theorem flagOfCode_toNat {b : Byte} {on : Bool} (h : flagOfCode b = some on) : b.toNat = on.toNat := by
  cases on with
  | false => rw [show b = 0x00 by by_contra hb; exact (flagOfCode_ne_false b).mpr hb h]; rfl
  | true => rw [(flagOfCode_eq_true b).mp h]; rfl

/-- Settles O45: the arrival of the written request. -/
theorem requestCommitArrives : Obligations.RequestCommitArrives := by
  intro s n d hp hr hl hmask hv hcode r
  obtain ⟨on, hon⟩ : ∃ on, flagOfCode d[3] = some on := by
    cases hf : flagOfCode d[3] with
    | none => exact absurd ((flagOfCode_isNone d[3]).mp (by rw [hf]; rfl)) (by omega)
    | some on => exact ⟨on, rfl⟩
  have hd : d[3].toNat = on.toNat := flagOfCode_toNat hon
  have hone : d[3] = 0x01 ↔ on = true := by
    rw [← BitVec.toNat_inj, hd]
    cases on <;> decide
  have hbyte : (d[3] == 0x01) = on := by
    rw [Bool.eq_iff_iff, beq_iff_eq, hone]
  let v := s.atRecord n
  have hcommit : v.commitLoad n s.port.mask (loadWordsOf d) = (v.setRequest n on).sweepWindows := by
    refine State.commitLoad_request (s := v) hv ?_ ?_ ?_
    · rw [hmask]; decide
    · rw [hmask]; decide
    · rw [writtenRequest, if_pos (by rw [hmask]; decide)]
      exact hon
  have hothers := State.commitLoad_others n s.port.mask (loadWordsOf d) v
  have hexec := exec_loadCommit (n := n) hp hr d
  rw [show s.atRecord n = v from rfl, hcommit] at hexec
  rw [hcommit] at hothers
  have hflags : (v.setRequest n on).sweepWindows.port.flags = s.port.flags := by
    rw [State.sweepWindows_port, State.setRequest_flags]
    exact Port.reach_flags _ _ _
  have hmark : (v.setRequest n on).sweepWindows.port.refusedMark
      = (s.port.refusedMark || (d[3] == 0x01 && !r.request && (r.state == .locked || s.engine.exhausted))) := by
    rw [State.sweepWindows_port, State.setRequest_marks, hbyte]
    exact congrArg (fun b => b || (on && !r.request && (r.state == .locked || s.engine.exhausted)))
      (Port.reach_refusedMark _ _ _)
  refine ⟨_, hexec, hothers, ?_, fun hsame => ?_, fun hreq h1 hx => ?_, fun hreq h1 hx => ?_, fun hreq h0 => ?_⟩
  · refine (State.committedAs_of_flags hflags).trans ?_
    rw [hmark]
    rfl
  · have hreq : (v.load n).request = on := by
      have hnat : on.toNat = r.request.toNat := hd.symm.trans hsame
      show r.request = on
      revert hnat
      cases on <;> cases r.request <;> decide
    rw [State.setRequest_same hreq]
    exact ⟨Load.sameButWindow_sweepWindows (s := v) rfl, rfl⟩
  · rw [hone.mp h1, State.setRequest_on (s := v) hreq]
    exact State.turnsOn_of (s := v) hx hl.2.1
  · rw [hone.mp h1, State.setRequest_on (s := v) hreq, State.arriveOn_of_exhausted (s := v) hx]
    exact ⟨Load.sameButWindow_sweepWindows (s := v.refuse) rfl, rfl⟩
  · have hoff : on = false := by
      cases on with
      | false => rfl
      | true => exact absurd (h0.symm.trans (hone.mpr rfl)) (by decide)
    rw [hoff, State.setRequest_off (s := v) hreq]
    exact State.turnsOff_of v n

end

end Sys2Proof.Machine
end

section
/-! PROOFS. What a commit at an enrolled record refuses (R6, R9, R10, R21, R87, R90). -/

namespace Sys2Proof.Machine

/-! ## The request through the stages -/

/-- The request accords with the state and with the cause of a deferral (R74). -/
def Load.AsksLaw (r : Load) : Prop :=
  (r.request = false → r.state = .idle ∨ r.state = .locked ∨ r.state = .tripped
      ∨ (r.state = .deferred ∧ r.reason = .deferred .requestOff))
    ∧ (r.request = true → r.state = .standby ∨ r.state = .starting ∨ r.state = .running ∨ r.state = .tripped
      ∨ (r.state = .deferred ∧ r.reason = .deferred .budget))

theorem Load.lawful.asksLaw {r : Load} (h : r.lawful) (hv : r.state ≠ .vacant) : r.AsksLaw := by
  obtain ⟨⟨hoff, hon, hdef⟩, -, ⟨-, hreason⟩, -⟩ := h
  have hcause := fun hd => hreason.mp hd
  constructor <;> intro hq <;> cases hs : r.state <;> simp_all

/-- A record that accords with r in what an arrival reads: its request, whether it is LOCKED or VACANT, and its law. -/
structure Load.SameAsked (r r' : Load) : Prop where
  request : r'.request = r.request
  locked : (r'.state == .locked) = (r.state == .locked)
  enrolled : r'.enrolled = r.enrolled
  law : r.AsksLaw → r'.AsksLaw

theorem Load.SameAsked.of_eq {r r' : Load} (hq : r'.request = r.request) (hs : r'.state = r.state)
    (hr : r'.reason = r.reason) : r.SameAsked r' :=
  ⟨hq, by rw [hs], by rw [Load.enrolled, hs]; rfl, by unfold Load.AsksLaw; rw [hq, hs, hr]; exact id⟩

theorem Load.SameAsked.trans {a b c : Load} (h : a.SameAsked b) (h' : b.SameAsked c) : a.SameAsked c :=
  ⟨h'.request.trans h.request, h'.locked.trans h.locked, h'.enrolled.trans h.enrolled, h'.law ∘ h.law⟩

/-- A cut by its cause of a DEFERRED record leaves its request (R101). -/
theorem Load.sameAsked_cutByCause {r : Load} (hs : r.state = .deferred) (forced : Bool) :
    r.SameAsked (r.cutByCause forced) := by
  unfold Load.cutByCause
  split
  case isTrue hr =>
    refine ⟨rfl, by rw [hs]; rfl, by rw [Load.enrolled, Load.enrolled, hs]; rfl, fun h => ⟨fun _ => .inl rfl, fun hq => ?_⟩⟩
    obtain ht := h.2 hq
    simp [hs, hr] at ht
  case isFalse hr =>
    refine ⟨rfl, by rw [hs]; rfl, by rw [Load.enrolled, Load.enrolled, hs]; rfl, fun h => ⟨fun hq => ?_, fun _ => .inl rfl⟩⟩
    obtain hf := h.1 hq
    simp [hs, hr] at hf

section
variable {s : State} {n : Channel}

theorem State.sameAsked_modify {f : Load → Load} (h : (s.load n).SameAsked (f (s.load n))) :
    (s.load n).SameAsked ((s.modify n f).load n) := by rwa [s.load_modify_self]

theorem State.sameAsked_moveHold (before : Option HoldLine) :
    (s.load n).SameAsked ((s.moveHold n before).load n) := by
  obtain ⟨hcase, -⟩ | ⟨hcase, hd, -⟩ := s.moveHold_cases n before
  · rw [hcase]
    exact .of_eq rfl rfl rfl
  · rw [hcase, State.load_endHoldWait_self hd]
    split
    · exact .of_eq rfl rfl rfl
    · exact Load.sameAsked_cutByCause hd _

theorem State.sameAsked_essentialCheck : (s.load n).SameAsked ((s.essentialCheck n).load n) := by
  obtain hcase | ⟨hcase, hs, -⟩ := s.essentialCheck_cases n
  · rw [hcase]
    exact .of_eq rfl rfl rfl
  · rw [hcase]
    by_cases hx : s.engine.exhausted = false
    · rw [s.load_start hs hx, if_pos rfl]
      refine ⟨rfl, by rw [hs]; rfl, by rw [Load.enrolled, Load.enrolled, hs]; rfl, fun h => ⟨fun hq => ?_, fun _ => .inr (.inl rfl)⟩⟩
      obtain hf := h.1 hq
      simp [hs] at hf
    · rw [s.start_refused fun ⟨_, h⟩ => hx h]
      exact .of_eq rfl rfl rfl

theorem State.sameAsked_sortedCheck :
    (s.load n).SameAsked ((((s.leaveStandby n).joinStandby n).essentialCheck n).load n) :=
  State.sameAsked_essentialCheck (s := (s.leaveStandby n).joinStandby n)

theorem State.sameAsked_changeClass (new : Nat) : (s.load n).SameAsked ((s.changeClass n new).load n) := by
  have htaken : (s.load n).SameAsked ((s.modify n fun r => { r with cls := new }).load n) :=
    State.sameAsked_modify (f := fun r => { r with cls := new }) (.of_eq rfl rfl rfl)
  simp only [State.changeClass]
  split
  case h_1 => exact htaken.trans State.sameAsked_sortedCheck
  case h_2 hs =>
    split
    case isTrue hb =>
      refine htaken.trans (State.sameAsked_modify ?_)
      rw [s.load_modify_self]
      refine ⟨rfl, by rw [hs]; rfl, ?_, fun h => ⟨fun hq => ?_, fun _ => .inr (.inr (.inl rfl))⟩⟩
      · simp only [Load.enrolled, Load.backToRunning, hs]
        rfl
      · obtain hf := h.1 hq
        simp [hs, hb.2] at hf
    case isFalse => exact htaken
  all_goals exact htaken

theorem State.sameAsked_commitClass (mask : Option Wide) (w : LoadWords) (refused : Bool) :
    (s.load n).SameAsked ((s.commitClass n mask w refused).load n) := by
  unfold State.commitClass
  split
  · split
    · exact .of_eq rfl rfl rfl
    · exact State.sameAsked_changeClass _
  · exact .of_eq rfl rfl rfl

/-- The fields of a commit leave what an arrival reads (R6, R13). -/
theorem State.sameAsked_commitFields (mask : Option Wide) (w : LoadWords) :
    (s.load n).SameAsked ((s.commitFields n mask w).load n) := by
  have hreason : ∀ r : Load, (r.withFields s.setup.level mask w).reason = r.reason := fun r => by
    unfold Load.withFields
    split <;> rfl
  have hrequest : ∀ r : Load, (r.withFields s.setup.level mask w).request = r.request := fun r => by
    unfold Load.withFields
    split <;> rfl
  rw [s.load_commitFields]
  exact .of_eq (hrequest _) (Load.withFields_state _ _ _ _) (hreason _)

/-! ## The counter through the stages (R90) -/

/-- The sequence counter with its mark. -/
def State.stamps (s : State) : Nat × Bool := (s.engine.seq, s.engine.exhausted)

theorem State.deferredCut_stamps : (s.deferredCut n).stamps = s.stamps := by
  by_cases hon : (s.load n).on = true
  · obtain ⟨hcase, -⟩ | ⟨hcase, -⟩ := s.deferredCut_cases n
    · rw [hcase, State.stamps, State.engine_cutToIdle hon]
      rfl
    · obtain ⟨hengine, -⟩ := State.engine_budgetCut hon
      rw [hcase, State.stamps, hengine]
      rfl
  · obtain ⟨hcase, -⟩ | ⟨hcase, -⟩ := s.deferredCut_cases n
    · rw [hcase, State.cutToIdle, if_neg hon]
    · rw [hcase, State.budgetCut, if_neg hon]

theorem State.moveHold_stamps (before : Option HoldLine) : (s.moveHold n before).stamps = s.stamps := by
  obtain ⟨hcase, -⟩ | ⟨hcase, -⟩ := s.moveHold_cases n before
  · rw [hcase]
  · rw [hcase]
    simp only [State.endHoldWait, State.cutIfNoWait]
    split
    · exact State.deferredCut_stamps
    · rfl

/-- One start leaves the counter exhausted, or not exhausted while another stamp is left. -/
theorem State.essentialCheck_exhausted (h : s.engine.exhausted = true ∨ s.engine.seq < 4294967295) :
    (s.essentialCheck n).engine.exhausted = s.engine.exhausted := by
  obtain hcase | ⟨hcase, hs, -⟩ := s.essentialCheck_cases n
  · rw [hcase]
  · rw [hcase]
    by_cases hx : s.engine.exhausted = false
    · rw [State.engine_start hs hx]
      have hseq : s.engine.seq < 4294967295 := h.resolve_left (by simp [hx])
      simp [Engine.stamped, hseq]
    · rw [s.start_refused fun ⟨_, hx'⟩ => hx hx']

theorem State.commitClass_exhausted (mask : Option Wide) (w : LoadWords) (refused : Bool)
    (h : s.engine.exhausted = true ∨ s.engine.seq < 4294967295) :
    (s.commitClass n mask w refused).engine.exhausted = s.engine.exhausted := by
  unfold State.commitClass
  split
  · split
    · rfl
    · simp only [State.changeClass]
      split
      · exact State.essentialCheck_exhausted (s := (State.leaveStandby n _).joinStandby n) h
      · split <;> rfl
      all_goals rfl
  · rfl

/-! ## Arrivals -/

/-- ON is refused at this record: it is LOCKED, or no stamp is left (R87, R90). -/
def State.barred (n : Channel) (s : State) : Bool := (s.load n).state == .locked || s.engine.exhausted

theorem State.arriveOff_engine_exhausted : (s.arriveOff n).engine.exhausted = s.engine.exhausted := by
  have hoff : ((s.modify n fun r => { r with request := false }).offWhileOn n).engine.exhausted = s.engine.exhausted := by
    unfold State.offWhileOn
    split
    · rfl
    · unfold State.cutToIdle
      split <;> rfl
  simp only [State.arriveOff]
  split
  case h_2 => exact hoff
  case h_3 => exact hoff
  all_goals rfl

/-- An arrival of OFF at a record that asks takes its request (R82 to R84, R86). -/
theorem State.arriveOff_asked (h : (s.load n).AsksLaw) (hq : (s.load n).request = true) :
    ((s.arriveOff n).load n).request = false ∧ (((s.arriveOff n).load n).state == .locked) = false := by
  have hask := s.load_modify_self n fun r => { r with request := false }
  have hoff : (s.load n).on = true → (s.load n).state ≠ .locked →
      (((s.modify n fun r => { r with request := false }).offWhileOn n).load n).request = false
      ∧ ((((s.modify n fun r => { r with request := false }).offWhileOn n).load n).state == .locked) = false := fun hon _ => by
    unfold State.offWhileOn
    split
    · rw [State.load_modify_self, hask]
      exact ⟨rfl, rfl⟩
    · rw [State.load_cutToIdle_self (by rw [hask]; exact hon), hask]
      exact ⟨rfl, rfl⟩
  have hstate := h.2 hq
  simp only [State.arriveOff]
  split
  case h_1 hs =>
    rw [State.load_leaveStandby, State.load_modify_self, hask]
    exact ⟨rfl, rfl⟩
  case h_2 hs => exact hoff (by rw [Load.on, hs]; rfl) (by rw [hs]; nofun)
  case h_3 hs => exact hoff (by rw [Load.on, hs]; rfl) (by rw [hs]; nofun)
  case h_4 hs =>
    rw [State.load_modify_self, hask]
    exact ⟨rfl, by rw [hs]; rfl⟩
  case h_5 hs =>
    rw [State.load_modify_self, hask]
    exact ⟨rfl, rfl⟩
  all_goals
    next hs => simp [hs] at hstate

/-- An arrival of ON is taken or refused (R81, R85 to R87, R90). -/
theorem State.arriveOn_asked (h : (s.load n).AsksLaw) (hq : (s.load n).request = false) :
    ((s.arriveOn n).load n).request = !s.barred n := by
  have hstate := h.1 hq
  unfold State.arriveOn State.barred
  split
  case isTrue hx =>
    rw [hx, Bool.or_true]
    exact hq
  case isFalse hx =>
    have hx : s.engine.exhausted = false := by simpa using hx
    have hask := s.load_takeRequestStamp n
    rw [hx]
    split
    case h_1 hs =>
      rw [(State.sameAsked_essentialCheck (s := (s.takeRequestStamp n).enterStandby n)).request, State.load_enterStandby,
        if_pos rfl, hask, hs]
      rfl
    case h_2 hs =>
      rw [State.load_modify_self, hask, hs]
      rfl
    case h_3 hs =>
      rw [hask, hs]
      rfl
    case h_4 hs =>
      rw [hs]
      exact hq
    all_goals
      simp_all

/-- What a request set to a value leaves of the request (R74). -/
theorem State.setRequest_asked (h : (s.load n).AsksLaw) (on : Bool) :
    ((s.setRequest n on).load n).request = (on && ((s.load n).request || !s.barred n)) := by
  cases hq : (s.load n).request <;> cases on
  · rw [State.setRequest_same hq, hq]; rfl
  · rw [State.setRequest_on hq, State.arriveOn_asked h hq]; rfl
  · rw [State.setRequest_off hq, (State.arriveOff_asked h hq).1]; rfl
  · rw [State.setRequest_same hq, hq]; rfl

theorem State.barred_setRequest_off (h : (s.load n).AsksLaw) : (s.setRequest n false).barred n = s.barred n := by
  cases hq : (s.load n).request
  · rw [State.setRequest_same hq]
  · have hstate := h.2 hq
    rw [State.setRequest_off hq, State.barred, State.barred, State.arriveOff_engine_exhausted, (State.arriveOff_asked h hq).2]
    congr 1
    cases hs : (s.load n).state <;> simp [hs] at hstate <;> rfl

/-! ## The mark of a commit -/

theorem State.commitFields_marks (s : State) (n : Channel) (mask : Option Wide) (w : LoadWords) :
    (s.commitFields n mask w).port.refusedMark = (s.port.refusedMark || (s.load n).refuses s.setup.level mask w) := by
  rw [State.commitFields, State.refuseIf_eq]
  rfl

theorem State.commitClass_marks (s : State) (n : Channel) (mask : Option Wide) (w : LoadWords) (refused : Bool) :
    (s.commitClass n mask w refused).port.refusedMark
      = (s.port.refusedMark || (((s.load n).classWritten mask w).isSome && refused)) := by
  unfold State.commitClass
  split
  case h_1 hc =>
    cases refused
    · rw [hc, if_neg nofun, State.changeClass_port]
      simp
    · rw [hc, if_pos rfl]
      simp [State.refuse]
  case h_2 hc => simp [hc]

theorem State.commitRequest_marks (s : State) (n : Channel) (mask : Option Wide) (w : LoadWords) :
    (s.commitRequest n mask w).port.refusedMark
      = (s.port.refusedMark || (writtenRequest mask w == some true && !(s.load n).request && s.barred n)) := by
  unfold State.commitRequest
  split
  case h_1 on hw =>
    rw [hw, State.setRequest_marks]
    cases on <;> simp [State.barred]
  case h_2 hw => simp [hw]

/-- The entry into FOLLOW with the switch pressed asks for ON (R78). -/
def State.followAsks (n : Channel) (before : SwitchMode) (s : State) : Bool :=
  (s.load n).switchMode == .follow && before != .follow && (s.load n).enrolled && s.switches[n].pressed

theorem State.followEntered_marks (s : State) (n : Channel) (before : SwitchMode) :
    (s.followEntered n before).port.refusedMark
      = (s.port.refusedMark || (s.followAsks n before && !(s.load n).request && s.barred n)) := by
  unfold State.followEntered State.followAsks
  split
  case isTrue h => rw [State.setRequest_marks, h]; simp [State.barred]
  case isFalse h => simp [h]

end

end Sys2Proof.Machine
end

section
/-! PROOFS. A commit takes its fields by their write class (R6, R8, R9, R13, R14, R174). -/

namespace Sys2Proof.Machine

section
variable {s : State} {n : Channel} {mask : Option Wide} {w : LoadWords}

/-! ## What the stages leave -/

theorem State.setRequest_enrolled (on : Bool) : ((s.setRequest n on).load n).enrolled = (s.load n).enrolled := by
  have hask := s.load_modify_self n fun r => { r with request := false }
  have htake := s.load_takeRequestStamp n
  have hoff : (s.load n).on = true →
      (((s.modify n fun r => { r with request := false }).offWhileOn n).load n).enrolled = true := fun hon => by
    unfold State.offWhileOn
    split
    · rw [State.load_modify_self]
      rfl
    · rw [State.load_cutToIdle_self (by rw [hask]; exact hon)]
      rfl
  unfold State.setRequest
  split
  · rfl
  split
  · unfold State.arriveOn
    split
    · rfl
    split
    case h_1 hs =>
      rw [(State.sameAsked_essentialCheck (s := (s.takeRequestStamp n).enterStandby n)).enrolled, State.load_enterStandby,
        if_pos rfl, Load.enrolled, Load.enrolled, hs]
      rfl
    case h_2 hs =>
      rw [State.load_modify_self, Load.enrolled, Load.enrolled, hs]
      rfl
    case h_3 hs => rw [htake]; rfl
    all_goals rfl
  · simp only [State.arriveOff]
    split
    case h_1 hs =>
      rw [State.load_leaveStandby, State.load_modify_self, hask, Load.enrolled, Load.enrolled, hs]
      rfl
    case h_2 hs =>
      rw [hoff (by rw [Load.on, hs]; rfl), Load.enrolled, hs]
      rfl
    case h_3 hs =>
      rw [hoff (by rw [Load.on, hs]; rfl), Load.enrolled, hs]
      rfl
    case h_4 hs => rw [State.load_modify_self, hask]; rfl
    case h_5 hs =>
      rw [State.load_modify_self, hask, Load.enrolled, Load.enrolled, hs]
      rfl
    all_goals rfl

theorem State.commitRequest_enrolled : ((s.commitRequest n mask w).load n).enrolled = (s.load n).enrolled := by
  unfold State.commitRequest
  split
  · exact State.setRequest_enrolled _
  · rfl

theorem State.moveHold_cls (before : Option HoldLine) : ((s.moveHold n before).load n).cls = (s.load n).cls := by
  obtain ⟨hcase, -⟩ | ⟨hcase, hd, -⟩ := s.moveHold_cases n before
  · rw [hcase]
  · rw [hcase, State.load_endHoldWait_self hd]
    split
    · rfl
    · unfold Load.cutByCause
      split <;> rfl

theorem State.config_sweepWindows (s : State) (n : Channel) : s.sweepWindows.config n = s.config n := by
  rw [State.config, State.load_sweepWindows]
  rfl

theorem State.config_keepLine (s : State) (n : Channel) (r : Load) : (s.modify n r.keepLine).config n = s.config n := by
  refine s.config_modify n ?_
  obtain ⟨hcase, -⟩ | hcase := Load.keepLine_cases r (s.load n) <;> rw [hcase]
  rfl

/-- A commit that does not retire leaves the configured fields of its first stage. -/
theorem State.config_commitLoad (hv : (s.load n).state ≠ .vacant)
    (h : ¬(s.setup.level = true ∧ writtenEnrolled mask w = some false)) :
    (s.commitLoad n mask w).config n = ((s.load n).withFields s.setup.level mask w).config := by
  rw [State.commitLoad_of_kept hv h, State.config_sweepWindows, State.commitEnrolled_stages, State.config_keepLine,
    State.followEntered_config, State.commitRequest_config, State.commitClass_config, State.moveHold_config, State.config,
    State.load_commitFields]

/-- The record that the first stage leaves, field by field (R6, R14). -/
theorem Load.withFields_eq (setup : Bool) (mask : Option Wide) (w : LoadWords) (r : Load) :
    r.withFields setup mask w = { r.takeFields setup mask w with
      retriesUsed := if (setup && writes mask 18) = true then
          (if r.state = .locked then clampRetryLimit w.retryLimit + 1 else min r.retriesUsed (clampRetryLimit w.retryLimit))
        else r.retriesUsed } := by
  unfold Load.withFields
  by_cases h : (setup && writes mask 18) = true
  · obtain ⟨hsetup, hwrites⟩ := Bool.and_eq_true_iff.mp h
    rw [if_pos h, if_pos (by simp [itemRetryLimit, hsetup, hwrites])]
    simp only [Load.adjustRetries, Load.takeFields, takeInstall, itemRetryLimit, hsetup, hwrites, Bool.and_self, if_true]
  · rw [if_neg h, if_neg (by simpa [itemRetryLimit, Bool.and_comm] using h)]
    rfl

/-! ## The mark of the whole commit -/

/-- The marks of the stages together. The entry into FOLLOW asks for ON where the written request has not, and no stage
before changes what bars an arrival, while two stamps are left (R12, R78, R87, R90). -/
theorem State.commitLoad_marks (hv : (s.load n).state ≠ .vacant) (hr : (s.load n).lawful)
    (h : ¬(s.setup.level = true ∧ writtenEnrolled mask w = some false))
    (hx : s.engine.exhausted = true ∨ s.engine.seq < 4294967295) :
    (s.commitLoad n mask w).port.refusedMark = (s.port.refusedMark || (s.load n).refuses s.setup.level mask w
      || (((s.load n).classWritten mask w).isSome && s.classRefused n (clampClass w.cls))
      || (writtenRequest mask w == some true && !(s.load n).request && s.barred n)
      || (((s.load n).withFields s.setup.level mask w).switchMode == .follow && (s.load n).switchMode != .follow
        && s.switches[n].pressed && !(writtenRequest mask w).getD (s.load n).request && s.barred n)) := by
  rw [State.commitLoad_of_kept hv h, State.commitEnrolled_stages, State.sweepWindows_port, State.modify_port,
    State.followEntered_marks]
  set u₁ := s.commitFields n mask w with h₁
  set u₂ := u₁.moveHold n (s.load n).holdLine with h₂
  set u₃ := u₂.commitClass n mask w (s.classRefused n (clampClass w.cls)) with h₃
  set u₄ := u₃.commitRequest n mask w with h₄
  have hasked₁ : (s.load n).SameAsked (u₂.load n) :=
    (State.sameAsked_commitFields mask w).trans (State.sameAsked_moveHold _)
  have hasked : (s.load n).SameAsked (u₃.load n) := hasked₁.trans (State.sameAsked_commitClass mask w _)
  have hlaw : (u₃.load n).AsksLaw := hasked.law (hr.asksLaw hv)
  have hcls : (u₂.load n).cls = (s.load n).cls := by
    rw [h₂, State.moveHold_cls, h₁, State.load_commitFields, Load.withFields_cls]
  have hstamps : u₂.stamps = s.stamps := by
    rw [h₂, State.moveHold_stamps, h₁, State.commitFields, State.refuseIf_eq]
    rfl
  have hexhausted : u₃.engine.exhausted = s.engine.exhausted := by
    have hseq : u₂.engine.seq = s.engine.seq := (congrArg Prod.fst hstamps :)
    have hex : u₂.engine.exhausted = s.engine.exhausted := (congrArg Prod.snd hstamps :)
    rw [h₃, State.commitClass_exhausted _ _ _ (by rwa [hseq, hex]), hex]
  have hbarred : u₃.barred n = s.barred n := by rw [State.barred, State.barred, hasked.locked, hexhausted]
  have hfollow : u₄.followAsks n (s.load n).switchMode
      = (((s.load n).withFields s.setup.level mask w).switchMode == .follow && (s.load n).switchMode != .follow
        && s.switches[n].pressed) := by
    have hmode : (u₄.load n).switchMode = ((s.load n).withFields s.setup.level mask w).switchMode := by
      have hconfig : u₄.config n = ((s.load n).withFields s.setup.level mask w).config := by
        rw [h₄, State.commitRequest_config, h₃, State.commitClass_config, h₂, State.moveHold_config, h₁, State.config,
          State.load_commitFields]
      have hmode := congrArg Load.switchMode hconfig
      exact hmode
    have henrolled : (u₄.load n).enrolled = true := by
      rw [h₄, State.commitRequest_enrolled, hasked.enrolled, Load.enrolled]
      simpa using hv
    have hswitches : u₄.switches = s.switches := by
      refine State.switches_of_apart ?_
      rw [h₄, State.commitRequest_apart, h₃, State.commitClass_apart, h₂, State.moveHold_apart, h₁, State.commitFields,
        State.refuseIf_apart, State.modify_apart]
    rw [State.followAsks, hmode, henrolled, hswitches, Bool.and_true]
  have hmarks : u₄.port.refusedMark = (s.port.refusedMark || (s.load n).refuses s.setup.level mask w
      || (((s.load n).classWritten mask w).isSome && s.classRefused n (clampClass w.cls))
      || (writtenRequest mask w == some true && !(s.load n).request && s.barred n)) := by
    have hwritten : (u₂.load n).classWritten mask w = (s.load n).classWritten mask w := by
      rw [Load.classWritten, Load.classWritten, hcls]
    rw [h₄, State.commitRequest_marks, hasked.request, hbarred, h₃, State.commitClass_marks, hwritten, h₂,
      State.moveHold_refusedMark, h₁, State.commitFields_marks]
  rw [hmarks, hfollow]
  have hend : (writtenRequest mask w = some true → (u₄.load n).request = ((s.load n).request || !s.barred n))
      ∧ (writtenRequest mask w = some false → (u₄.load n).request = false ∧ u₄.barred n = s.barred n)
      ∧ (writtenRequest mask w = none → (u₄.load n).request = (s.load n).request ∧ u₄.barred n = s.barred n) := by
    refine ⟨fun hw => ?_, fun hw => ?_, fun hw => ?_⟩
    all_goals simp only [h₄, State.commitRequest, hw]
    · rw [State.setRequest_asked hlaw, hasked.request, hbarred, Bool.true_and]
    · rw [State.setRequest_asked hlaw, State.barred_setRequest_off hlaw, hbarred]
      exact ⟨rfl, rfl⟩
    · exact ⟨hasked.request, hbarred⟩
  obtain ⟨hon, hoff, hnone⟩ := hend
  cases hw : writtenRequest mask w with
  | none =>
    obtain ⟨hq, hb⟩ := hnone hw
    rw [hq, hb]
    rfl
  | some on =>
    cases on with
    | false =>
      obtain ⟨hq, hb⟩ := hoff hw
      rw [hq, hb]
      rfl
    | true =>
      rw [hon hw]
      cases (s.load n).request <;> cases s.barred n <;> simp

end

end Sys2Proof.Machine
end

section
/-! PROOFS. A commit of an enrolled record: the fields taken, the commit that hands on no event, and REFUSED (R6, R8, R9). -/

namespace Sys2Proof.Machine

section
variable {s : State} {n : Channel} {mask : Option Wide} {w : LoadWords}

/-! ## A commit that hands on no event -/

/-- The fields of a record with the same configured fields are those that the first stage leaves. -/
theorem Load.withFields_of_config {setup : Bool} {r a : Load} (h : a.config = (r.withFields setup mask w).config) :
    ({ r with
        declaredDraw := a.declaredDraw, settleTime := a.settleTime, switchMode := a.switchMode, holdLine := a.holdLine
        learnEnable := a.learnEnable, minOn := a.minOn, minOff := a.minOff, holdLimit := a.holdLimit
        retryLimit := a.retryLimit, retryBase := a.retryBase, restartPolicy := a.restartPolicy
        retriesUsed := a.retriesUsed } : Load) = r.withFields setup mask w := by
  have hfields := Load.mk.inj h
  obtain ⟨-, -, -, hdeclared, -, hsettle, hmode, hline, hlearn, hon, hoff, hlimit, hretry, hbase, hpolicy, hused, -⟩ := hfields
  rw [hdeclared, hsettle, hmode, hline, hlearn, hon, hoff, hlimit, hretry, hbase, hpolicy, hused, Load.withFields_eq]
  rfl

theorem Load.classWritten_isSome {r : Load} : (r.classWritten mask w).isSome = true ↔
    writes mask 2 = true ∧ clampClass w.cls ≠ r.cls := by
  unfold Load.classWritten
  split <;> simp_all [itemClass]

theorem writtenRequest_eq_some {on : Bool} : writtenRequest mask w = some on ↔
    writes mask 3 = true ∧ flagOfCode w.request = some on := by
  unfold writtenRequest
  split <;> simp_all [itemRequest]

theorem State.commitFields_frame (s : State) (n : Channel) (mask : Option Wide) (w : LoadWords) :
    (s.commitFields n mask w).engine = s.engine ∧ (s.commitFields n mask w).port.flags = s.port.flags := by
  rw [State.commitFields, State.refuseIf_eq]
  exact ⟨rfl, rfl⟩

/-- A commit with no event is its first stage (R12). -/
theorem State.commitLoad_quiet (hv : (s.load n).state ≠ .vacant)
    (h : ¬(s.setup.level = true ∧ writtenEnrolled mask w = some false))
    (hclass : ((s.load n).classWritten mask w).isSome = false)
    (hrequest : ∀ on, writtenRequest mask w = some on → on = (s.load n).request)
    (hhold : ¬((s.load n).state = .deferred ∧ (s.load n).waitHold = true
      ∧ ((s.load n).withFields s.setup.level mask w).holdLine ≠ (s.load n).holdLine
      ∧ s.held ((s.load n).withFields s.setup.level mask w).holdLine = false))
    (hmode : ¬((s.load n).switchMode ≠ .follow ∧ ((s.load n).withFields s.setup.level mask w).switchMode = .follow
      ∧ s.switches[n].pressed ≠ (s.load n).request)) :
    s.commitLoad n mask w = (s.commitFields n mask w).sweepWindows := by
  rw [State.commitLoad_of_kept hv h, State.commitEnrolled_stages]
  have hload := s.load_commitFields n mask w
  have happart : (s.commitFields n mask w).apart = s.apart := by
    rw [State.commitFields, State.refuseIf_apart, State.modify_apart]
  generalize s.commitFields n mask w = u at hload happart ⊢
  have heq : u.load n = { (s.load n).takeFields s.setup.level mask w with retriesUsed := (u.load n).retriesUsed } := by
    rw [hload, Load.withFields_eq]
  have hmoved : u.moveHold n (s.load n).holdLine = u := by
    obtain ⟨hcase, -⟩ | ⟨-, hd, hwait, hline, hheld⟩ := u.moveHold_cases n (s.load n).holdLine
    · exact hcase
    · rw [hload] at hline hheld
      have hholds : u.holds = s.holds := State.holds_of_apart happart
      refine absurd ⟨?_, ?_, hline, ?_⟩ hhold
      · rwa [heq] at hd
      · rwa [heq] at hwait
      · simpa only [State.held, hholds] using hheld
  have hclassed : u.commitClass n mask w (s.classRefused n (clampClass w.cls)) = u := by
    have hnone : (u.load n).classWritten mask w = none := by
      have hwritten : (u.load n).classWritten mask w = (s.load n).classWritten mask w := by
        rw [heq]
        rfl
      rw [hwritten]
      exact Option.isSome_eq_false_iff.mp hclass |> Option.isNone_iff_eq_none.mp
    simp only [State.commitClass, hnone]
  have hsame : ∀ on, on = (s.load n).request → u.setRequest n on = u := fun on hon =>
    State.setRequest_same (by rw [heq, hon]; rfl)
  have hasked : u.commitRequest n mask w = u := by
    unfold State.commitRequest
    split
    case h_1 on hw => exact hsame on (hrequest on hw)
    case h_2 => rfl
  have hfollowed : u.followEntered n (s.load n).switchMode = u := by
    unfold State.followEntered
    split
    case isTrue hc =>
      obtain ⟨hboth, -⟩ := Bool.and_eq_true_iff.mp hc
      obtain ⟨hnow, hbefore⟩ := Bool.and_eq_true_iff.mp hboth
      rw [hload] at hnow
      refine hsame _ ?_
      rw [State.switches_of_apart happart]
      by_contra hne
      exact hmode ⟨by simpa using hbefore, by simpa using hnow, hne⟩
    case isFalse => rfl
  rw [hmoved, hclassed, hasked, hfollowed, State.modify_keepLine]
  refine .of_counts ?_
  rw [heq]
  exact ⟨rfl, rfl, rfl⟩

/-! ## What is refused (R6, R9) -/

theorem refuseInstall_iff {α : Type} [DecidableEq α] {setup written : Bool} {held new : α} :
    refuseInstall setup written held new = true ↔ setup = false ∧ written = true ∧ new ≠ held := by
  simp [refuseInstall, and_left_comm, and_assoc]

theorem refuseInstallCode_iff {α : Type} [DecidableEq α] {setup written : Bool} {held : α} {code : Option α} :
    refuseInstallCode setup written held code = true ↔
      (written = true ∧ code.isNone = true) ∨ (setup = false ∧ written = true ∧ code ≠ some held) := by
  cases setup
  · rw [refuseInstallCode_released]
    cases code <;> simp
  · rw [refuseInstallCode_asserted]
    simp

theorem switchModeOfCode_ne (b : Byte) (m : SwitchMode) : switchModeOfCode b ≠ some m ↔ b ≠ switchModeCode m := by
  cases m <;> revert b <;> decide

theorem switchModeOfCode_eq_follow (b : Byte) : switchModeOfCode b = some .follow ↔ b = 0x02 := by
  revert b; decide

theorem holdLineOfCode_ne (b : Byte) (h : Option HoldLine) : holdLineOfCode b ≠ some h ↔ b ≠ holdLineCode h := by
  revert h b; decide

theorem restartPolicyOfCode_ne (b : Byte) (p : RestartPolicy) :
    restartPolicyOfCode b ≠ some p ↔ b ≠ restartPolicyCode p := by
  cases p <;> revert b <;> decide

theorem flagOfCode_refused (b : Byte) {setup written : Bool} :
    refuseInstallCode setup written true (flagOfCode b) = true ↔
      (written = true ∧ 2 ≤ b.toNat) ∨ (setup = false ∧ written = true ∧ b = 0x00) := by
  have hcode : flagOfCode b ≠ some true ↔ 2 ≤ b.toNat ∨ b = 0x00 := by revert b; decide
  rw [refuseInstallCode_iff, flagOfCode_isNone, hcode]
  tauto

/-- What the fields of a commit refuse (R6, R8, R9). -/
theorem Load.refuses_iff (setup : Bool) (d : Vector Byte 28) (r : Load) : r.refuses setup mask (loadWordsOf d) = true ↔
    (writes mask 1 = true ∧ 2 ≤ d[1].toNat) ∨ (setup = false ∧ writes mask 1 = true ∧ d[1] = 0x00)
      ∨ (writes mask 3 = true ∧ 2 ≤ d[3].toNat)
      ∨ (setup = false ∧ writes mask 4 = true ∧ clampDeclared (be16 d[4] d[5]) ≠ r.declaredDraw)
      ∨ (setup = false ∧ writes mask 8 = true ∧ clampSettle d[8] ≠ r.settleTime)
      ∨ (writes mask 9 = true ∧ 4 ≤ d[9].toNat)
      ∨ (setup = false ∧ writes mask 9 = true ∧ d[9] ≠ switchModeCode r.switchMode)
      ∨ (writes mask 10 = true ∧ 5 ≤ d[10].toNat)
      ∨ (setup = false ∧ writes mask 10 = true ∧ d[10] ≠ holdLineCode r.holdLine)
      ∨ (writes mask 11 = true ∧ 2 ≤ d[11].toNat)
      ∨ (setup = false ∧ writes mask 12 = true ∧ clampMinTime (be16 d[12] d[13]) ≠ r.minOn)
      ∨ (setup = false ∧ writes mask 14 = true ∧ clampMinTime (be16 d[14] d[15]) ≠ r.minOff)
      ∨ (setup = false ∧ writes mask 16 = true ∧ clampHoldLimit (be16 d[16] d[17]) ≠ r.holdLimit)
      ∨ (setup = false ∧ writes mask 18 = true ∧ clampRetryLimit d[18] ≠ r.retryLimit)
      ∨ (setup = false ∧ writes mask 19 = true ∧ clampRetryBase d[19] ≠ r.retryBase)
      ∨ (writes mask 20 = true ∧ 2 ≤ d[20].toNat)
      ∨ (setup = false ∧ writes mask 20 = true ∧ d[20] ≠ restartPolicyCode r.restartPolicy) := by
  simp only [Load.refuses, Load.refusesInstall, Bool.or_eq_true, Bool.and_eq_true, flagOfCode_refused]
  simp only [refuseInstall_iff, refuseInstallCode_iff, flagOfCode_isNone, switchModeOfCode_isNone, holdLineOfCode_isNone, restartPolicyOfCode_isNone,
    switchModeOfCode_ne, holdLineOfCode_ne, restartPolicyOfCode_ne, loadWordsOf, itemEnrolled, itemRequest,
    itemDeclaredDraw, itemSettleTime, itemSwitchMode, itemHoldLine, itemLearnEnable, itemMinOn, itemMinOff, itemHoldLimit,
    itemRetryLimit, itemRetryBase, itemRestartPolicy]
  exact Iff.of_eq (by ac_rfl)

end

/-- Settles O43: the fields of the first stage, the record where no event follows, and the marks of the stages together. -/
theorem loadCommitTakesFieldsByWriteClass : Obligations.LoadCommitTakesFieldsByWriteClass := by
  intro s n d hp hr hv named takes r hkept
  let v := s.atRecord n
  let mask := s.port.mask
  let w := loadWordsOf d
  have hnamed : ∀ item, named item = writes mask item := fun _ => rfl
  have hret : ¬(v.setup.level = true ∧ writtenEnrolled mask w = some false) := by
    rintro ⟨hsetup, hw⟩
    refine hkept ⟨?_, ?_⟩
    · unfold writtenEnrolled at hw
      split at hw
      case isTrue h1 => exact Bool.and_eq_true_iff.mpr ⟨hsetup, h1⟩
      case isFalse => cases hw
    · unfold writtenEnrolled at hw
      split at hw
      case isTrue =>
        by_contra hne
        exact (flagOfCode_ne_false d[1]).mpr hne hw
      case isFalse => cases hw
  have hconfig : (v.commitLoad n mask w).config n = (r.withFields s.setup.level mask w).config :=
    State.config_commitLoad (s := v) hv hret
  have hquiet := State.commitLoad_quiet (s := v) hv hret
  have hmarks := State.commitLoad_marks (s := v) (mask := mask) (w := w) hv
  have hothers := State.commitLoad_others n mask w v
  have hexec := exec_loadCommit (n := n) hp hr d
  have hv' : s.atRecord n = v := rfl
  rw [hv'] at hexec
  have hfields : ∀ {α : Type} (g : Load → α), (∀ x : Load, g x.config = g x) →
      g ((v.commitLoad n mask w).load n) = g (r.withFields s.setup.level mask w) := fun g hg => by
    rw [← hg, ← hg (r.withFields _ _ _)]
    exact congrArg g hconfig
  refine ⟨_, hexec, hothers, rfl, ?_⟩
  generalize v.commitLoad n mask w = u at *
  have htaken := Load.withFields_eq s.setup.level mask w r
  have hswitch := hfields Load.switchMode fun _ => rfl
  have hholdLine := hfields Load.holdLine fun _ => rfl
  rw [htaken] at hfields
  refine ⟨(hfields Load.declaredDraw fun _ => rfl).trans (takeInstall_eq _ _ _ _),
    (hfields Load.settleTime fun _ => rfl).trans (takeInstall_eq _ _ _ _),
    (hfields Load.switchMode fun _ => rfl).trans (takeInstallCode_eq _ _ _ _),
    (hfields Load.holdLine fun _ => rfl).trans (takeInstallCode_eq _ _ _ _),
    hfields Load.learnEnable fun _ => rfl,
    (hfields Load.minOn fun _ => rfl).trans (takeInstall_eq _ _ _ _),
    (hfields Load.minOff fun _ => rfl).trans (takeInstall_eq _ _ _ _),
    (hfields Load.holdLimit fun _ => rfl).trans (takeInstall_eq _ _ _ _),
    (hfields Load.retryLimit fun _ => rfl).trans (takeInstall_eq _ _ _ _),
    (hfields Load.retryBase fun _ => rfl).trans (takeInstall_eq _ _ _ _),
    (hfields Load.restartPolicy fun _ => rfl).trans (takeInstallCode_eq _ _ _ _),
    hfields Load.retriesUsed fun _ => rfl,
    hfields Load.learnedDraw fun _ => rfl, ?_, ?_⟩
  · intro after hclass hrequest hhold hmode
    have hq : u = (v.commitFields n mask w).sweepWindows := by
      refine hquiet ?_ (fun on hw => ?_) (fun ⟨hs, hwait, hline, hheld⟩ => hhold ⟨hs, hwait, ?_, ?_⟩)
        fun ⟨hbefore, hnow, hne⟩ => hmode ⟨hbefore, hswitch.trans hnow, hne⟩
      · rw [← Bool.not_eq_true, Load.classWritten_isSome]
        exact hclass
      · obtain ⟨hnamed3, hcode⟩ := writtenRequest_eq_some.mp hw
        have hbyte : d[3].toNat = on.toNat := flagOfCode_toNat hcode
        by_contra hne
        refine hrequest ⟨hnamed3, by rw [hbyte]; cases on <;> decide, ?_⟩
        rw [hbyte]
        intro hnat
        refine hne ?_
        show on = r.request
        revert hnat
        cases on <;> cases r.request <;> decide
      · exact fun he => hline (hholdLine.symm.trans he)
      · exact (congrArg s.held hholdLine).trans hheld
    have hafter : ({ r with
        declaredDraw := after.declaredDraw, settleTime := after.settleTime, switchMode := after.switchMode
        holdLine := after.holdLine, learnEnable := after.learnEnable, minOn := after.minOn, minOff := after.minOff
        holdLimit := after.holdLimit, retryLimit := after.retryLimit, retryBase := after.retryBase
        restartPolicy := after.restartPolicy, retriesUsed := after.retriesUsed } : Load)
        = r.withFields s.setup.level mask w := Load.withFields_of_config (a := u.load n) hconfig
    rw [hafter]
    have hload : (v.commitFields n mask w).load n = r.withFields s.setup.level mask w := v.load_commitFields n mask w
    obtain ⟨hengine, hflags⟩ := v.commitFields_frame n mask w
    rw [hq]
    generalize v.commitFields n mask w = x at hload hengine hflags
    exact ⟨hengine, hflags.trans (Port.reach_flags _ _ _), Load.sameButWindow_sweepWindows hload⟩
  · intro hrecords hx released differs unknown noArrival asked
    have hmarks := hmarks (hrecords n) hret (hx.imp_right fun h => Nat.lt_of_le_of_lt (Nat.le_add_right _ 3) h)
    have hmark : v.port.refusedMark = s.port.refusedMark := Port.reach_refusedMark _ _ _
    have hbarred : v.barred n = true ↔ noArrival := by
      simp only [State.barred, Bool.or_eq_true, beq_iff_eq]
      exact Iff.rfl
    have hone : (writtenRequest mask w == some true) = true ↔ named 3 = true ∧ d[3] = 0x01 := by
      rw [beq_iff_eq, writtenRequest_eq_some]
      exact and_congr_right fun _ => flagOfCode_eq_true d[3]
    have hasked : (!(writtenRequest mask w).getD r.request) = true ↔ ¬asked := by
      cases hw : writtenRequest mask w with
      | some on =>
        obtain ⟨hnamed3, hcode⟩ := writtenRequest_eq_some.mp hw
        have hbyte : d[3].toNat = on.toNat := flagOfCode_toNat hcode
        have hif : asked ↔ d[3] = 0x01 :=
          Iff.of_eq (if_pos ⟨hnamed3, by rw [hbyte]; cases on <;> decide⟩)
        have hcode : flagOfCode d[3] = some on := hcode
        rw [hif, ← flagOfCode_eq_true, hcode]
        cases on <;> simp
      | none =>
        have hif : asked ↔ r.request = true := by
          refine Iff.of_eq (if_neg fun ⟨hnamed3, hlt⟩ => ?_)
          have hnone : (flagOfCode d[3]).isNone = true := by
            cases hcode : flagOfCode d[3] with
            | none => rfl
            | some on => rw [writtenRequest_eq_some.mpr ⟨hnamed3, hcode⟩] at hw; cases hw
          exact absurd ((flagOfCode_isNone _).mp hnone) (by omega)
        rw [hif]
        simp
    have hfollow : ((r.withFields s.setup.level mask w).switchMode == .follow && r.switchMode != .follow) = true
        ↔ takes 9 = true ∧ d[9] = 0x02 ∧ r.switchMode ≠ .follow := by
      rw [show (r.withFields s.setup.level mask w).switchMode
        = if takes 9 = true then (switchModeOfCode d[9]).getD r.switchMode else r.switchMode by
          rw [htaken]; exact takeInstallCode_eq _ _ _ _, ← switchModeOfCode_eq_follow]
      by_cases hbefore : r.switchMode = .follow
      · simp [hbefore]
      · by_cases h9 : takes 9 = true
        · rw [if_pos h9]
          cases switchModeOfCode d[9] <;> simp [hbefore, h9]
        · simp [hbefore, h9]
    have hclass : (((v.load n).classWritten mask w).isSome && v.classRefused n (clampClass w.cls)) = true ↔
        named 2 = true ∧ min d[2].toNat 7 ≠ r.cls
          ∧ ((released ∧ (min d[2].toNat 7 = 0 ∨ r.cls = 0))
            ∨ (r.cls = 0 ∧ r.state = .starting
              ∧ ∃ m : Channel, m ≠ n ∧ (s.load m).state = .starting ∧ (s.load m).cls ≠ 0)) := by
      rw [Bool.and_eq_true, Load.classWritten_isSome, State.classRefused_iff, and_assoc]
      exact Iff.rfl
    have hrequest : (writtenRequest mask w == some true && !(v.load n).request && v.barred n) = true ↔
        named 3 = true ∧ d[3] = 0x01 ∧ r.request = false ∧ noArrival := by
      rw [Bool.and_eq_true, Bool.and_eq_true, hone, hbarred, Bool.not_eq_true', and_assoc, and_assoc]
      exact Iff.rfl
    have hentered : ((r.withFields s.setup.level mask w).switchMode == .follow && r.switchMode != .follow
        && s.switches[n].pressed && !(writtenRequest mask w).getD r.request && v.barred n) = true ↔
        takes 9 = true ∧ d[9] = 0x02 ∧ r.switchMode ≠ .follow ∧ s.switches[n].pressed = true ∧ ¬asked ∧ noArrival := by
      rw [Bool.and_eq_true, Bool.and_eq_true, Bool.and_eq_true, hfollow, hasked, hbarred]
      simp only [and_assoc]
    have hrefuses := Load.refuses_iff (mask := mask) s.setup.level d r
    have hall : u.port.refusedMark = true ↔ (((s.port.refusedMark = true ∨ r.refuses s.setup.level mask w = true)
        ∨ (((v.load n).classWritten mask w).isSome && v.classRefused n (clampClass w.cls)) = true)
        ∨ (writtenRequest mask w == some true && !(v.load n).request && v.barred n) = true)
        ∨ ((r.withFields s.setup.level mask w).switchMode == .follow && r.switchMode != .follow
          && s.switches[n].pressed && !(writtenRequest mask w).getD r.request && v.barred n) = true := by
      rw [hmarks, hmark]
      simp only [Bool.or_eq_true]
      exact Iff.rfl
    refine hall.trans ?_
    rw [hrefuses, hclass, hrequest, hentered]
    have hget : ∀ (i : Nat) (h : i < 28), d[i]! = d[i] := fun i h => getElem!_pos d i h
    simp only [unknown, differs, released, hnamed, hget, Nat.reduceLT, clampDeclared, clampSettle, clampMinTime,
      clampHoldLimit, clampRetryLimit, clampRetryBase, clampTo]
    exact Iff.of_eq (by ac_rfl)

end Sys2Proof.Machine
end

section
/-! PROOFS. Parts that the events of one record tell apart by its switch mode, its REFUSED mark and its windows alone: the
events keep them so (R12, R164). -/

namespace Sys2Proof.Machine

/-- A record but for its switch mode and its learn window, which no event of a commit reads but the entry into FOLLOW. -/
def Load.seen (r : Load) : Load := { r with switchMode := .none, window := .closed }

/-- What the events of a record read of the part beside the records, the engine and the flags. -/
def State.surround (s : State) : Filter × Vector Filter 4 × Budget × Filter × Vector SwitchLine 12 × Sense :=
  (s.forceOff, s.holds, s.budget, s.setup, s.switches, s.sense)

/-- Two parts that accord for the events of record n. -/
structure State.Alike (n : Channel) (s t : State) : Prop where
  surround : t.surround = s.surround
  engine : t.engine = s.engine
  flags : t.port.flags = s.port.flags
  seen : ∀ m, (t.load m).seen = (s.load m).seen
  window : (t.load n).window.swept n t.outputs = (s.load n).window.swept n s.outputs

section
variable {n : Channel} {s t u : State}

theorem State.Alike.refl (n : Channel) (s : State) : s.Alike n s := ⟨rfl, rfl, rfl, fun _ => rfl, rfl⟩

theorem State.Alike.symm (h : s.Alike n t) : t.Alike n s :=
  ⟨h.surround.symm, h.engine.symm, h.flags.symm, fun m => (h.seen m).symm, h.window.symm⟩

theorem State.Alike.trans (h : s.Alike n t) (h' : t.Alike n u) : s.Alike n u :=
  ⟨h'.surround.trans h.surround, h'.engine.trans h.engine, h'.flags.trans h.flags,
    fun m => (h'.seen m).trans (h.seen m), h'.window.trans h.window⟩

theorem State.Alike.forceOff (h : s.Alike n t) : t.forceOff = s.forceOff := (Prod.mk.inj h.surround).1

theorem State.Alike.held (h : s.Alike n t) : t.held = s.held := by
  have hholds : t.holds = s.holds := (Prod.mk.inj (Prod.mk.inj h.surround).2).1
  funext line
  cases line <;> simp only [State.held, hholds]

theorem State.Alike.budget (h : s.Alike n t) : t.budget = s.budget :=
  (Prod.mk.inj (Prod.mk.inj (Prod.mk.inj h.surround).2).2).1

theorem State.Alike.setup (h : s.Alike n t) : t.setup = s.setup :=
  (Prod.mk.inj (Prod.mk.inj (Prod.mk.inj (Prod.mk.inj h.surround).2).2).2).1

theorem State.Alike.switches (h : s.Alike n t) : t.switches = s.switches :=
  (Prod.mk.inj (Prod.mk.inj (Prod.mk.inj (Prod.mk.inj (Prod.mk.inj h.surround).2).2).2).2).1

theorem State.Alike.sense (h : s.Alike n t) : t.sense = s.sense :=
  (Prod.mk.inj (Prod.mk.inj (Prod.mk.inj (Prod.mk.inj (Prod.mk.inj h.surround).2).2).2).2).2

/-- Any field that the switch mode and the window leave. -/
theorem State.Alike.field (h : s.Alike n t) {α : Type} (g : Load → α) (hg : ∀ r : Load, g r.seen = g r) (m : Channel) :
    g (t.load m) = g (s.load m) := by
  rw [← hg, ← hg (s.load m), h.seen]

theorem State.Alike.state (h : s.Alike n t) (m : Channel) : (t.load m).state = (s.load m).state :=
  h.field Load.state (fun _ => rfl) m

theorem State.Alike.outputs (h : s.Alike n t) : t.outputs = s.outputs := by
  unfold State.outputs
  congr 1
  funext m
  exact h.field Load.on (fun _ => rfl) m

/-! ## Changes of the records -/

/-- The lines of the other channels alone say what is left of a window. -/
theorem Window.swept_congr (w : Window) {now now' : Vector Bool 12} (h : ∀ m : Channel, m ≠ n → now'[m] = now[m]) :
    w.swept n now' = w.swept n now := by
  have hspoiled : ∀ o : Opening, o.spoiled n now' = o.spoiled n now := fun o => by
    rw [Bool.eq_iff_iff, Opening.spoiled_iff, Opening.spoiled_iff]
    exact exists_congr fun m => and_congr_right fun hm => by rw [h m hm]
  simp only [Window.swept, hspoiled]

theorem Window.swept_swept (w : Window) (now : Vector Bool 12) : (w.swept n now).swept n now = w.swept n now := by
  cases w with
  | closed => rfl
  | settling o => by_cases ho : o.spoiled n now = true <;> simp [Window.swept, Window.opening, ho]
  | closing o => by_cases ho : o.spoiled n now = true <;> simp [Window.swept, Window.opening, ho]

/-- A change of a record that reads neither its switch mode nor its window, and leaves the window or replaces it. -/
structure Load.Blind (f : Load → Load) : Prop where
  seen : ∀ r, (f r).seen = (f r.seen).seen
  window : (∀ r, (f r).window = r.window) ∨ ∀ r, (f r).window = (f r.seen).window

theorem Load.Blind.keeps {f : Load → Load} (h : ∀ r, (f r).seen = (f r.seen).seen) (hw : ∀ r, (f r).window = r.window) :
    Load.Blind f := ⟨h, .inl hw⟩

theorem Load.Blind.replaces {f : Load → Load} (h : ∀ r, (f r).seen = (f r.seen).seen)
    (hw : ∀ r, (f r).window = (f r.seen).window) : Load.Blind f := ⟨h, .inr hw⟩

theorem State.outputs_modify (s : State) (n : Channel) (f : Load → Load) (m : Channel) (hm : m ≠ n) :
    (s.modify n f).outputs[m] = s.outputs[m] := by
  simp [State.outputs, s.load_modify_of_ne f hm]

theorem State.Alike.modify (h : s.Alike n t) {f : Load → Load} (hf : Load.Blind f) :
    (s.modify n f).Alike n (t.modify n f) := by
  refine ⟨h.surround, h.engine, h.flags, fun m => ?_, ?_⟩
  · by_cases hm : m = n
    · rw [hm, State.load_modify_self, State.load_modify_self, hf.seen, hf.seen (s.load n), h.seen]
    · rw [State.load_modify_of_ne _ _ hm, State.load_modify_of_ne _ _ hm, h.seen]
  · rw [State.load_modify_self, State.load_modify_self, Window.swept_congr _ (t.outputs_modify n f),
      Window.swept_congr _ (s.outputs_modify n f)]
    obtain hw | hw := hf.window
    · rw [hw, hw]
      exact h.window
    · rw [hw, hw (s.load n), h.seen, h.outputs]

/-- The same change, in two forms that agree. -/
theorem State.Alike.modify' (h : s.Alike n t) {f g : Load → Load} (hf : Load.Blind f) (hg : g = f) :
    (s.modify n f).Alike n (t.modify n g) := hg.symm ▸ h.modify hf

/-! ## Changes of the engine and the flags -/

theorem State.Alike.engineSet (h : s.Alike n t) {e e' : Engine} (he : e' = e) :
    ({ s with engine := e } : State).Alike n { t with engine := e' } :=
  ⟨h.surround, he, h.flags, h.seen, h.window⟩

theorem State.Alike.leaveRun (h : s.Alike n t) : (s.leaveRun n).Alike n (t.leaveRun n) := h.engineSet (by rw [h.engine])
theorem State.Alike.joinRun (h : s.Alike n t) : (s.joinRun n).Alike n (t.joinRun n) := h.engineSet (by rw [h.engine])
theorem State.Alike.leaveStandby (h : s.Alike n t) : (s.leaveStandby n).Alike n (t.leaveStandby n) :=
  h.engineSet (by rw [h.engine])

theorem State.Alike.joinStandby (h : s.Alike n t) : (s.joinStandby n).Alike n (t.joinStandby n) := by
  have hcls := h.field Load.cls fun _ => rfl
  have hstamp := h.field Load.requestStamp fun _ => rfl
  have hbefore : t.standbyBefore = s.standbyBefore := by
    funext a b
    simp only [State.standbyBefore, hcls, hstamp]
  exact h.engineSet (by rw [h.engine, hbefore])

theorem State.Alike.stampIssued (h : s.Alike n t) : s.stampIssued.Alike n t.stampIssued := by
  rw [State.stampIssued_eq, State.stampIssued_eq]
  exact h.engineSet (by rw [h.engine])

theorem State.Alike.raise (h : s.Alike n t) (g : Flag) : (s.raise g).Alike n (t.raise g) :=
  ⟨h.surround, h.engine, by simp only [State.raise, h.flags], h.seen, h.window⟩

theorem State.Alike.refuse (h : s.Alike n t) : s.refuse.Alike n t.refuse :=
  ⟨h.surround, h.engine, h.flags, h.seen, h.window⟩

/-! ## The events of a record -/

theorem State.Alike.openWindow (h : s.Alike n t) : (s.openWindow n).Alike n (t.openWindow n) := by
  refine h.modify' (.replaces (fun r => ?_) fun r => ?_) ?_
  · show Load.seen (if r.learnEnable = true then _ else _) = Load.seen (if r.learnEnable = true then _ else _)
    split <;> rfl
  · show Load.window (if r.learnEnable = true then _ else _) = Load.window (if r.learnEnable = true then _ else _)
    split <;> rfl
  · rw [h.sense, h.outputs]

theorem State.Alike.start (h : s.Alike n t) : (s.start n).Alike n (t.start n) := by
  have hstarted : ∀ k : Nat, Load.Blind (Load.started k) := fun k => .keeps (fun _ => rfl) fun _ => rfl
  unfold State.start
  rw [h.state, h.engine]
  split
  · have hjoined := ((h.leaveStandby.modify (hstarted s.engine.seq)).stampIssued).joinRun
    exact (hjoined.engineSet (by rw [hjoined.engine])).openWindow
  · exact h

theorem State.Alike.essentialCheck (h : s.Alike n t) : (s.essentialCheck n).Alike n (t.essentialCheck n) := by
  have heligible : t.eligible (t.load n) = s.eligible (s.load n) := by
    rw [State.eligible, State.eligible, h.forceOff, h.field Load.minOff fun _ => rfl, h.field Load.dwell fun _ => rfl]
  have hguard : (t.essentialCheck n) = if ((s.load n).state == .standby && (s.load n).cls == 0 && s.eligible (s.load n)) = true
      then t.start n else t := by
    rw [← heligible, ← h.state, ← h.field Load.cls fun _ => rfl]
    rfl
  rw [hguard, State.essentialCheck]
  split
  · exact h.start
  · exact h

theorem State.Alike.enterStandby (h : s.Alike n t) : (s.enterStandby n).Alike n (t.enterStandby n) := by
  have hreason : t.entryReason = s.entryReason := by
    funext r
    rw [State.entryReason, State.entryReason, h.forceOff]
  have hentered := h.modify (f := fun r => { r with
    state := .standby, reason := .standby (s.entryReason r), retryTimer := none }) (.keeps (fun _ => rfl) fun _ => rfl)
  unfold State.enterStandby
  rw [hreason]
  exact hentered.joinStandby

theorem State.Alike.switchOff (h : s.Alike n t) : (s.switchOff n).Alike n (t.switchOff n) :=
  (h.modify (.replaces (fun _ => rfl) fun _ => rfl)).leaveRun

theorem State.Alike.toIdle (h : s.Alike n t) : (s.modify n Load.toIdle).Alike n (t.modify n Load.toIdle) :=
  h.modify (.keeps (fun _ => rfl) fun _ => rfl)

theorem State.Alike.budgetCut (h : s.Alike n t) : (s.budgetCut n).Alike n (t.budgetCut n) := by
  unfold State.budgetCut
  rw [h.field Load.on fun _ => rfl]
  split
  · have hcut := ((h.switchOff.enterStandby).modify (f := fun r => { r with shed := true })
      (.keeps (fun _ => rfl) fun _ => rfl)).raise .shed
    exact hcut.engineSet (by rw [hcut.engine, hcut.budget])
  · exact h

theorem State.Alike.cutToIdle (h : s.Alike n t) : (s.cutToIdle n).Alike n (t.cutToIdle n) := by
  unfold State.cutToIdle
  rw [h.field Load.on fun _ => rfl]
  split
  · exact h.switchOff.toIdle
  · exact h

theorem State.Alike.deferredCut (h : s.Alike n t) : (s.deferredCut n).Alike n (t.deferredCut n) := by
  unfold State.deferredCut
  rw [h.field Load.reason fun _ => rfl]
  split
  · exact h.cutToIdle
  · exact h.budgetCut

theorem State.Alike.endHoldWait (h : s.Alike n t) : (s.endHoldWait n).Alike n (t.endHoldWait n) := by
  have hended := h.modify (f := fun r => { r with waitHold := false, holdTimer := 0 }) (.keeps (fun _ => rfl) fun _ => rfl)
  simp only [State.endHoldWait, State.cutIfNoWait]
  rw [hended.state, hended.field Load.waitHold fun _ => rfl, hended.field Load.waitMinOn fun _ => rfl]
  split
  · exact hended.deferredCut
  · exact hended

theorem State.Alike.moveHold (h : s.Alike n t) (before : Option HoldLine) :
    (s.moveHold n before).Alike n (t.moveHold n before) := by
  simp only [State.moveHold]
  rw [h.state, h.field Load.waitHold fun _ => rfl, h.field Load.holdLine fun _ => rfl, h.held]
  split
  · exact h.endHoldWait
  · exact h

theorem State.Alike.backToRunning (h : s.Alike n t) :
    (s.modify n Load.backToRunning).Alike n (t.modify n Load.backToRunning) :=
  h.modify (.keeps (fun _ => rfl) fun _ => rfl)

theorem State.Alike.changeClass (h : s.Alike n t) (new : Nat) : (s.changeClass n new).Alike n (t.changeClass n new) := by
  have htaken := h.modify (f := fun r => { r with cls := new }) (.keeps (fun _ => rfl) fun _ => rfl)
  simp only [State.changeClass]
  rw [h.state, h.field Load.reason fun _ => rfl]
  split
  · exact htaken.leaveStandby.joinStandby.essentialCheck
  · split
    · exact htaken.backToRunning
    · exact htaken
  all_goals exact htaken

/-- The class of two commits that name it alike and are refused alike. -/
theorem State.Alike.commitClass (h : s.Alike n t) {mask mask' : Option Wide} (hmask : writes mask' 2 = writes mask 2)
    (w : LoadWords) (refused : Bool) : (s.commitClass n mask w refused).Alike n (t.commitClass n mask' w refused) := by
  have hwritten : (t.load n).classWritten mask' w = (s.load n).classWritten mask w := by
    rw [Load.classWritten, Load.classWritten, itemClass, hmask, h.field Load.cls fun _ => rfl]
  simp only [State.commitClass, hwritten]
  split
  · split
    · exact h.refuse
    · exact h.changeClass _
  · exact h

theorem State.Alike.takeRequestStamp (h : s.Alike n t) : (s.takeRequestStamp n).Alike n (t.takeRequestStamp n) := by
  have hasked := h.modify (f := fun r => { r with request := true, requestStamp := some s.engine.seq })
    (.keeps (fun _ => rfl) fun _ => rfl)
  unfold State.takeRequestStamp
  rw [h.engine]
  exact hasked.stampIssued

theorem State.Alike.arriveOn (h : s.Alike n t) : (s.arriveOn n).Alike n (t.arriveOn n) := by
  unfold State.arriveOn
  rw [h.engine, h.state]
  split
  · exact h.refuse
  · split
    · exact h.takeRequestStamp.enterStandby.essentialCheck
    · exact h.takeRequestStamp.backToRunning
    · exact h.takeRequestStamp
    · exact h.refuse
    all_goals exact h

theorem State.Alike.offWhileOn (h : s.Alike n t) : (s.offWhileOn n).Alike n (t.offWhileOn n) := by
  unfold State.offWhileOn
  rw [h.held, h.field Load.holdLine fun _ => rfl]
  split
  · exact h.modify (.replaces (fun _ => rfl) fun _ => rfl)
  · exact h.cutToIdle

theorem State.Alike.arriveOff (h : s.Alike n t) : (s.arriveOff n).Alike n (t.arriveOff n) := by
  have hoff := h.modify (f := fun r => { r with request := false }) (.keeps (fun _ => rfl) fun _ => rfl)
  simp only [State.arriveOff]
  rw [h.state]
  split
  · exact hoff.toIdle.leaveStandby
  · exact hoff.offWhileOn
  · exact hoff.offWhileOn
  · exact hoff.modify (.keeps (fun _ => rfl) fun _ => rfl)
  · exact hoff.toIdle
  all_goals exact h

theorem State.Alike.setRequest (h : s.Alike n t) (on : Bool) : (s.setRequest n on).Alike n (t.setRequest n on) := by
  unfold State.setRequest
  rw [h.field Load.request fun _ => rfl]
  split
  · exact h
  · split
    · exact h.arriveOn
    · exact h.arriveOff

/-- The request of two commits that name it alike. -/
theorem State.Alike.commitRequest (h : s.Alike n t) {mask mask' : Option Wide} (hmask : writes mask' 3 = writes mask 3)
    (w : LoadWords) : (s.commitRequest n mask w).Alike n (t.commitRequest n mask' w) := by
  have hwritten : writtenRequest mask' w = writtenRequest mask w := by
    rw [writtenRequest, writtenRequest, itemRequest, hmask]
  simp only [State.commitRequest, hwritten]
  split
  · exact h.setRequest _
  · exact h

/-- The entry into FOLLOW, where the switch modes accord too. -/
theorem State.Alike.followEntered (h : s.Alike n t) {before : SwitchMode} (hmode : (t.load n).switchMode = (s.load n).switchMode) :
    (s.followEntered n before).Alike n (t.followEntered n before) := by
  unfold State.followEntered
  rw [hmode, h.field Load.enrolled fun _ => rfl, h.switches]
  split
  · exact h.setRequest _
  · exact h

/-- The end of the event: a window it closes is one that the next end would close. -/
theorem State.alike_sweepWindows (n : Channel) (s : State) : s.Alike n s.sweepWindows := by
  refine ⟨rfl, rfl, rfl, fun m => ?_, ?_⟩
  · rw [State.load_sweepWindows]
    rfl
  · rw [State.load_sweepWindows, State.sweepWindows_outputs]
    exact Window.swept_swept _ _

/-- What the port holds beside its flags is not read. -/
theorem State.alike_of_port {p : Port} (h : p.flags = s.port.flags) : s.Alike n { s with port := p } :=
  ⟨rfl, rfl, h, fun _ => rfl, rfl⟩

theorem State.alike_refuseIf (b : Bool) : s.Alike n (s.refuseIf b) := by
  rw [State.refuseIf_eq]
  exact State.alike_of_port rfl

end

end Sys2Proof.Machine
end

section
/-! PROOFS. The events of one load commit act in their order (R12, R13, R78). -/

namespace Sys2Proof.Machine

/-! ## The stages that a commit names (R12, R174) -/

/-- The items of the fields beside the switch mode, with the enrolled field. -/
def plainItems : List Nat := [1, 4, 8, 10, 11, 12, 14, 16, 18, 19, 20]

section
variable {s : State} {n : Channel} {mask mask' : Option Wide} {w : LoadWords}

theorem Load.LineKept.of_withFields {setup : Bool} {r r' : Load} (h : (r.withFields setup mask w).LineKept r') :
    r.LineKept r' := by
  rw [Load.withFields_eq] at h
  exact h

theorem Load.withFields_switchMode (setup : Bool) (r : Load) : (r.withFields setup mask w).switchMode
    = takeInstallCode setup (writes mask 9) r.switchMode (switchModeOfCode w.switchMode) := by
  rw [Load.withFields_eq]
  rfl

theorem takeInstallCode_unnamed {α : Type} (setup : Bool) (held : α) (code : Option α) :
    takeInstallCode setup false held code = held := by
  rw [takeInstallCode_eq, Bool.and_false, if_neg nofun]

/-- A commit of fields beside the switch mode: no event but a moved hold wait (R13). -/
theorem State.commitLoad_plain (hv : (s.load n).state ≠ .vacant)
    (h : ¬(s.setup.level = true ∧ writtenEnrolled mask w = some false)) (hclass : writes mask 2 = false)
    (hrequest : writes mask 3 = false) (hmode : writes mask 9 = false) :
    s.commitLoad n mask w = ((s.commitFields n mask w).moveHold n (s.load n).holdLine).sweepWindows := by
  have hsame : (((s.commitFields n mask w).moveHold n (s.load n).holdLine).load n).switchMode = (s.load n).switchMode := by
    have hconfig := congrArg Load.switchMode (State.moveHold_config (s.commitFields n mask w) n (s.load n).holdLine)
    refine Eq.trans hconfig ?_
    show ((s.commitFields n mask w).load n).switchMode = _
    rw [State.load_commitFields, Load.withFields_switchMode, hmode, takeInstallCode_unnamed]
  have hkept := State.lineKept_moveHold (s := s.commitFields n mask w) (n := n) (s.load n).holdLine
  rw [State.load_commitFields] at hkept
  rw [State.commitLoad_of_kept hv h, State.commitEnrolled_stages, State.commitClass_of_unnamed hclass,
    State.commitRequest_of_unnamed hrequest, State.followEntered_of_same hsame, State.modify_keepLine hkept.of_withFields]

/-- A commit of the request alone (R80). -/
theorem State.commitLoad_requestItem (hv : (s.load n).state ≠ .vacant) (hfields : ∀ i ∈ fieldItems, writes mask i = false)
    (hclass : writes mask 2 = false) :
    s.commitLoad n mask w
      = ((s.refuseIf (writes mask 3 && (flagOfCode w.request).isNone)).commitRequest n mask w).sweepWindows := by
  have henrolled : writes mask 1 = false := hfields 1 (by simp [fieldItems])
  have hsame : ((((s.refuseIf (writes mask 3 && (flagOfCode w.request).isNone)).commitRequest n mask w)).load n).switchMode
      = (s.load n).switchMode := by
    have hconfig := congrArg Load.switchMode
      (State.commitRequest_config (s.refuseIf (writes mask 3 && (flagOfCode w.request).isNone)) n mask w)
    refine Eq.trans hconfig ?_
    show ((s.refuseIf _).load n).switchMode = _
    rw [State.load_refuseIf]
  have hkept : (s.load n).LineKept
      ((((s.refuseIf (writes mask 3 && (flagOfCode w.request).isNone)).commitRequest n mask w)).load n) := by
    have hload := s.load_refuseIf (writes mask 3 && (flagOfCode w.request).isNone) n
    rw [← hload]
    unfold State.commitRequest
    split
    · exact State.lineKept_setRequest _
    · exact .same _
  have hmoved : (s.refuseIf (writes mask 3 && (flagOfCode w.request).isNone)).moveHold n (s.load n).holdLine
      = s.refuseIf (writes mask 3 && (flagOfCode w.request).isNone) :=
    State.moveHold_of_same (by rw [State.load_refuseIf])
  rw [State.commitLoad_of_kept hv (by simp [writtenEnrolled, itemEnrolled, henrolled]), State.commitEnrolled_stages,
    State.commitFields_of_unnamed hfields, hmoved, State.commitClass_of_unnamed hclass, State.followEntered_of_same hsame,
    State.modify_keepLine hkept]

/-- The record after a commit that names the switch mode at most. -/
theorem Load.withFields_mode {setup : Bool} {r : Load} (h : ∀ i ∈ plainItems, writes mask i = false) :
    r.withFields setup mask w = { r with
      switchMode := takeInstallCode setup (writes mask 9) r.switchMode (switchModeOfCode w.switchMode) } := by
  simp only [plainItems, List.forall_mem_cons] at h
  obtain ⟨-, h4, h8, h10, h11, h12, h14, h16, h18, h19, h20, -⟩ := h
  simp only [Load.withFields, Load.takeFields, takeInstall_eq, takeInstallCode_eq, itemDeclaredDraw, itemSettleTime,
    itemSwitchMode, itemHoldLine, itemLearnEnable, itemMinOn, itemMinOff, itemHoldLimit, itemRetryLimit, itemRetryBase,
    itemRestartPolicy, h4, h8, h10, h11, h12, h14, h16, h18, h19, h20, Bool.and_false, Bool.false_and,
    Bool.false_eq_true, if_false]

/-- A commit of the switch mode alone (R78). -/
theorem State.commitLoad_mode (hv : (s.load n).state ≠ .vacant) (hplain : ∀ i ∈ plainItems, writes mask i = false)
    (hclass : writes mask 2 = false) (hrequest : writes mask 3 = false) :
    s.commitLoad n mask w = ((s.commitFields n mask w).followEntered n (s.load n).switchMode).sweepWindows := by
  have henrolled : writes mask 1 = false := hplain 1 (by simp [plainItems])
  have hload : (s.commitFields n mask w).load n = { s.load n with
      switchMode := takeInstallCode s.setup.level (writes mask 9) (s.load n).switchMode (switchModeOfCode w.switchMode) } := by
    rw [State.load_commitFields, Load.withFields_mode hplain]
  have hmoved : (s.commitFields n mask w).moveHold n (s.load n).holdLine = s.commitFields n mask w :=
    State.moveHold_of_same (by rw [hload])
  have hkept : (s.load n).LineKept (((s.commitFields n mask w).followEntered n (s.load n).switchMode).load n) := by
    have hfields : ((s.commitFields n mask w).load n).LineKept
        (((s.commitFields n mask w).followEntered n (s.load n).switchMode).load n) := by
      unfold State.followEntered
      split
      · exact State.lineKept_setRequest _
      · exact .same _
    rw [hload] at hfields
    exact hfields
  rw [State.commitLoad_of_kept hv (by simp [writtenEnrolled, itemEnrolled, henrolled]), State.commitEnrolled_stages, hmoved,
    State.commitClass_of_unnamed hclass, State.commitRequest_of_unnamed hrequest, State.modify_keepLine hkept]

/-! ## A new hold line (R13) -/

/-- The first stage of a commit that refuses nothing. -/
theorem State.commitFields_taken {r : Load} (hload : (s.load n).withFields s.setup.level mask w = r)
    (hrefuses : (s.load n).refuses s.setup.level mask w = false) :
    s.commitFields n mask w = s.modify n fun _ => r := by
  rw [State.commitFields, hrefuses, State.refuseIf, if_neg nofun]
  unfold State.modify
  rw [hload]

theorem Load.refuses_of_line {r : Load} {line : Option HoldLine} (hcode : holdLineOfCode w.holdLine = some line) :
    r.refuses true (some 0x00000400) w = false ∧ r.withFields true (some 0x00000400) w = { r with holdLine := line } := by
  have hplain : ∀ i ∈ [1, 3, 4, 8, 9, 11, 12, 14, 16, 18, 19, 20], writes (some 0x00000400) i = false := by decide
  have hline : writes (some 0x00000400) 10 = true := by decide
  simp only [List.forall_mem_cons] at hplain
  obtain ⟨h1, h3, h4, h8, h9, h11, h12, h14, h16, h18, h19, h20, -⟩ := hplain
  constructor
  · simp only [Load.refuses, Load.refusesInstall, refuseInstallCode_asserted, refuseInstall, itemEnrolled, itemRequest,
      itemDeclaredDraw, itemSettleTime, itemSwitchMode, itemHoldLine, itemLearnEnable, itemMinOn, itemMinOff, itemHoldLimit,
      itemRetryLimit, itemRetryBase, itemRestartPolicy, h1, h3, h4, h8, h9, h11, h12, h14, h16, h18, h19, h20, hcode,
      Bool.false_and, Bool.or_false, Option.isNone_some, Bool.and_false]
  · simp only [Load.withFields, Load.takeFields, takeInstall_eq, takeInstallCode_eq, itemDeclaredDraw, itemSettleTime,
      itemSwitchMode, itemHoldLine, itemLearnEnable, itemMinOn, itemMinOff, itemHoldLimit, itemRetryLimit, itemRetryBase,
      itemRestartPolicy, h4, h8, h9, h11, h12, h14, h16, h18, h19, h20, hline, hcode, Bool.and_false, Bool.false_and,
      Bool.false_eq_true, if_false, Bool.and_self, if_true, Option.getD_some]

/-- What a commit that names the switch mode at most refuses (R6, R9). -/
theorem Load.refuses_mode {setup : Bool} {r : Load} (h : ∀ i ∈ plainItems, writes mask i = false)
    (hrequest : writes mask 3 = false) :
    r.refuses setup mask w = refuseInstallCode setup (writes mask 9) r.switchMode (switchModeOfCode w.switchMode) := by
  have hcode : ∀ {α : Type} [DecidableEq α] (held : α) (code : Option α), refuseInstallCode setup false held code = false :=
    fun held code => by cases code <;> rfl
  simp only [plainItems, List.forall_mem_cons] at h
  obtain ⟨h1, h4, h8, h10, h11, h12, h14, h16, h18, h19, h20, -⟩ := h
  simp only [Load.refuses, Load.refusesInstall, refuseInstall, itemEnrolled, itemRequest, itemDeclaredDraw, itemSettleTime,
    itemSwitchMode, itemHoldLine, itemLearnEnable, itemMinOn, itemMinOff, itemHoldLimit, itemRetryLimit, itemRetryBase,
    itemRestartPolicy, h1, hrequest, h4, h8, h10, h11, h12, h14, h16, h18, h19, h20, hcode, Bool.false_and, Bool.or_false,
    Bool.false_or]

theorem Port.afterRecord_refusedMark (space : Space) (index next : Nat) (p : Port) :
    (p.afterRecord space index next).refusedMark = p.refusedMark := by
  unfold Port.afterRecord
  split <;> rfl

/-- The part that a commit leaves, as the statements write it. -/
theorem State.committedAs_taken (s : State) (n : Channel) (r : Load) (u : State) :
    s.committedAs n u = { s.fieldsTaken n r with
      loads := u.loads, engine := u.engine
      port := { (s.fieldsTaken n r).port with refusedMark := u.port.refusedMark, flags := u.port.flags } } := rfl

theorem State.fieldsTaken_marks (s : State) (n : Channel) (r : Load) :
    (s.fieldsTaken n r).port.refusedMark = s.port.refusedMark ∧ (s.fieldsTaken n r).port.flags = s.port.flags :=
  ⟨Port.afterRecord_refusedMark _ _ _ _, Port.afterRecord_flags _ _ _ _⟩

/-- A commit that marks nothing. -/
theorem State.committedAs_of_marks (r : Load) {u : State} (hr : u.port.refusedMark = s.port.refusedMark) :
    s.committedAs n u = { s.fieldsTaken n r with
      loads := u.loads, engine := u.engine, port := { (s.fieldsTaken n r).port with flags := u.port.flags } } := by
  obtain ⟨hmarks, -⟩ := s.fieldsTaken_marks n r
  rw [s.committedAs_taken n r, hr, ← hmarks]

/-- A commit that sets no flag, with the record that it takes. -/
theorem State.committedAs_of_unflagged (r : Load) {u : State} (hf : u.port.flags = s.port.flags) :
    s.committedAs n u = { s.fieldsTaken n r with
      loads := u.loads, engine := u.engine
      port := { (s.fieldsTaken n r).port with refusedMark := u.port.refusedMark } } := by
  obtain ⟨-, hflags⟩ := s.fieldsTaken_marks n r
  rw [s.committedAs_taken n r, hf, ← hflags]

/-- A commit that acts on the records alone. -/
theorem State.committedAs_of_loads (r : Load) {u : State} (hr : u.port.refusedMark = s.port.refusedMark)
    (hf : u.port.flags = s.port.flags) (he : u.engine = s.engine) :
    s.committedAs n u = { s.fieldsTaken n r with loads := u.loads } := by
  obtain ⟨-, hflags⟩ := s.fieldsTaken_marks n r
  rw [State.committedAs_of_marks r hr, hf, he, ← hflags]

end

/-- A new hold line on an enrolled record moves a hold wait or ends it (R13, log 20). -/
theorem holdLineCommit_acts {s : State} {n : Channel} {d : Vector Byte 28} (hp : s.powered = true)
    (hr : s.startup.ready = true) (hv : (s.load n).state ≠ .vacant) (line : Option HoldLine) (hsetup : s.setup.level = true)
    (hmask : s.port.mask = some 0x00000400) (hcode : d[10] = holdLineCode line) :
    let r := s.load n
    let u := s.fieldsTaken n { r with holdLine := line }
    let ends := r.state = .deferred ∧ r.waitHold = true ∧ line ≠ r.holdLine ∧ s.held line = false
    ∃ t : State, exec (.loadCommit n d) s = .next t ∧ s.othersSame n t
      ∧ (¬ends → t = { u with loads := t.loads } ∧ (u.load n).sameButWindow n t)
      ∧ (ends → r.waitMinOn = true → t = { u with loads := t.loads }
        ∧ ({ u.load n with waitHold := false, holdTimer := 0 }).sameButWindow n t)
      ∧ (ends → r.waitMinOn = false → u.cutsDeferred n s.port.flags t) := by
  intro r u ends
  let v := s.atRecord n
  let w := loadWordsOf d
  have hline : holdLineOfCode w.holdLine = some line := by
    show holdLineOfCode d[10] = some line
    rw [hcode]
    exact not_not.mp fun hne => (holdLineOfCode_ne _ line).mp hne rfl
  obtain ⟨hrefuses, hfields⟩ := Load.refuses_of_line (r := r) hline
  have htaken : v.commitFields n s.port.mask w = v.modify n fun _ => { r with holdLine := line } := by
    refine State.commitFields_taken ?_ ?_
    · rw [hmask, show v.setup.level = true from hsetup]
      exact hfields
    · rw [hmask, show v.setup.level = true from hsetup]
      exact hrefuses
  have hplain := State.commitLoad_plain (s := v) (mask := s.port.mask) (w := w) hv
    (by rw [hmask]; rintro ⟨-, h⟩; cases h) (by rw [hmask]; decide) (by rw [hmask]; decide) (by rw [hmask]; decide)
  rw [htaken] at hplain
  have hexec := exec_loadCommit (n := n) hp hr d
  have hothers := State.commitLoad_others n s.port.mask w v
  rw [show s.atRecord n = v from rfl] at hexec
  rw [hplain] at hexec hothers
  have hload : (v.modify n fun _ => { r with holdLine := line }).load n = { r with holdLine := line } :=
    v.load_modify_self n _
  have hflags : (v.modify n fun _ => { r with holdLine := line }).port.flags = s.port.flags := Port.reach_flags _ _ _
  have hmarks : (v.modify n fun _ => { r with holdLine := line }).port.refusedMark = s.port.refusedMark :=
    Port.reach_refusedMark _ _ _
  have hengine : (v.modify n fun _ => { r with holdLine := line }).engine = s.engine := rfl
  have hforce : (v.modify n fun _ => { r with holdLine := line }).forceOff = s.forceOff := rfl
  have hbudget : (v.modify n fun _ => { r with holdLine := line }).budget = s.budget := rfl
  have hheld : (v.modify n fun _ => { r with holdLine := line }).held = s.held := rfl
  have huload : u.load n = { r with holdLine := line } := s.load_modify_self n fun _ => { r with holdLine := line }
  generalize v.modify n (fun _ => { r with holdLine := line }) = x at *
  refine ⟨_, hexec, hothers, fun hnot => ?_, fun hends hwait => ?_, fun hends hwait => ?_⟩
  · have hkept : x.moveHold n r.holdLine = x := by
      obtain ⟨hcase, -⟩ | ⟨-, hs, hw, hne, hh⟩ := x.moveHold_cases n r.holdLine
      · exact hcase
      · rw [hload] at hs hw hne hh
        exact absurd ⟨hs, hw, hne, hheld ▸ hh⟩ hnot
    have hkept' : x.moveHold n (v.load n).holdLine = x := hkept
    rw [hkept', huload]
    exact ⟨State.committedAs_of_loads (u := x.sweepWindows) _ hmarks hflags hengine,
      Load.sameButWindow_sweepWindows hload⟩
  all_goals
    obtain ⟨hs, hw, hne, hh⟩ := hends
    have hended : x.moveHold n (v.load n).holdLine = x.endHoldWait n := by
      obtain ⟨-, hnot⟩ | ⟨hcase, -⟩ := x.moveHold_cases n r.holdLine
      · rw [hload, hheld] at hnot
        exact absurd ⟨hs, hw, hne, hh⟩ hnot
      · exact hcase
    rw [hended]
  · have hload' : (x.modify n fun r => { r with waitHold := false, holdTimer := 0 }).load n
        = { r with holdLine := line, waitHold := false, holdTimer := 0 } := by
      rw [State.load_modify_self, hload]
    have hmarks' : (x.modify n fun r => { r with waitHold := false, holdTimer := 0 }).port.refusedMark
        = s.port.refusedMark := hmarks
    have hflags' : (x.modify n fun r => { r with waitHold := false, holdTimer := 0 }).port.flags = s.port.flags := hflags
    have hengine' : (x.modify n fun r => { r with waitHold := false, holdTimer := 0 }).engine = s.engine := hengine
    rw [State.endHoldWait_of_wait (by rw [hload]; exact hwait), huload]
    generalize x.modify n (fun r => { r with waitHold := false, holdTimer := 0 }) = y at *
    exact ⟨State.committedAs_of_loads (u := y.sweepWindows) _ hmarks' hflags' hengine',
      Load.sameButWindow_sweepWindows hload'⟩
  · obtain ⟨hcut, -, hoff, hon⟩ := State.cutsDeferred_endHoldWait (s := x) (u := x) (n := n) (by rw [hload]; exact hs)
      (by rw [hload]; exact hwait) rfl rfl rfl rfl hflags
    have hmarks' : (x.endHoldWait n).sweepWindows.port.refusedMark = s.port.refusedMark := by
      rw [State.sweepWindows_port, State.endHoldWait_refusedMark, hmarks]
    rw [hload, ← huload, hforce] at hcut
    rw [hload, ← huload, hengine] at hoff
    rw [hload, ← huload, hengine, hbudget] at hon
    generalize (x.endHoldWait n).sweepWindows = z at *
    exact ⟨hcut, State.committedAs_of_marks _ hmarks', hoff, hon⟩

/-- The arrivals read and leave the part at these places alone. -/
theorem State.turnsOn_as {s u t z : State} {n : Channel} (h : s.turnsOn n z) (hload : u.load n = s.load n)
    (he : u.engine = s.engine) (hf : u.forceOff = s.forceOff) (hs : u.sense = s.sense) (hz : t.load n = z.load n)
    (hze : t.engine = z.engine) (hout : t.outputs = z.outputs) : u.turnsOn n t := by
  simp only [State.turnsOn, State.entersStandby, Load.startsNow, Load.sameButWindow, Window.leftIn] at h ⊢
  simpa only [hload, he, hf, hs, hz, hze, hout] using h

theorem State.turnsOff_as {s u t z : State} {n : Channel} (h : s.turnsOff n z) (hload : u.load n = s.load n)
    (he : u.engine = s.engine) (hh : u.held = s.held) (hz : t.load n = z.load n) (hze : t.engine = z.engine)
    (hout : t.outputs = z.outputs) : u.turnsOff n t := by
  simp only [State.turnsOff, Load.sameButWindow, Window.leftIn] at h ⊢
  simpa only [hload, he, hh, hz, hze, hout] using h

theorem State.followEntered_of {s : State} {n : Channel} (hmode : (s.load n).switchMode = .follow)
    (henrolled : (s.load n).enrolled = true) (before : SwitchMode) :
    s.followEntered n before = if before ≠ .follow then s.setRequest n s.switches[n].pressed else s := by
  unfold State.followEntered
  rw [hmode, henrolled]
  by_cases hb : before = .follow
  · simp [hb]
  · simp [hb]

/-- A commit of FOLLOW over another mode sets the request to the stable level of the switch (R78). -/
theorem followCommit_acts {s : State} {n : Channel} {d : Vector Byte 28} (hp : s.powered = true)
    (hr : s.startup.ready = true) (hl : s.listsInOrder) (hv : (s.load n).state ≠ .vacant) (hsetup : s.setup.level = true)
    (hmask : s.port.mask = some 0x00000200) (hcode : d[9] = 0x02) :
    let r := s.load n
    let u := s.fieldsTaken n { r with switchMode := .follow }
    let enters := r.switchMode ≠ .follow
    let pressed := s.switches[n].pressed
    ∃ t : State, exec (.loadCommit n d) s = .next t ∧ s.othersSame n t
      ∧ t = { u with loads := t.loads, engine := t.engine, port := { u.port with refusedMark := t.port.refusedMark } }
      ∧ (¬enters ∨ pressed = r.request → t.engine = s.engine ∧ t.port = u.port ∧ (u.load n).sameButWindow n t)
      ∧ (enters → pressed = true → r.request = false → s.engine.exhausted = false →
          u.turnsOn n t ∧ t.port.refusedMark = (s.port.refusedMark || r.state == .locked))
      ∧ (enters → pressed = true → r.request = false → s.engine.exhausted = true →
          t.engine = s.engine ∧ t.port.refusedMark = true ∧ (u.load n).sameButWindow n t)
      ∧ (enters → pressed = false → r.request = true → u.turnsOff n t ∧ t.port = u.port) := by
  intro r u enters pressed
  let v := s.atRecord n
  let w := loadWordsOf d
  obtain ⟨hrefuses, hfields⟩ : r.refuses true (some 0x00000200) w = false
      ∧ r.withFields true (some 0x00000200) w = { r with switchMode := .follow } := by
    have hmode : switchModeOfCode w.switchMode = some .follow := (switchModeOfCode_eq_follow _).mpr hcode
    rw [Load.refuses_mode (by decide) (by decide), Load.withFields_mode (by decide), hmode]
    exact ⟨rfl, rfl⟩
  have htaken : v.commitFields n s.port.mask w = v.modify n fun _ => { r with switchMode := .follow } := by
    rw [hmask]
    refine State.commitFields_taken ?_ ?_ <;> rw [show v.setup.level = true from hsetup]
    · exact hfields
    · exact hrefuses
  have hmode := State.commitLoad_mode (s := v) (mask := s.port.mask) (w := w) hv (by rw [hmask]; decide)
    (by rw [hmask]; decide) (by rw [hmask]; decide)
  rw [htaken] at hmode
  have hexec := exec_loadCommit (n := n) hp hr d
  have hothers := State.commitLoad_others n s.port.mask w v
  rw [show s.atRecord n = v from rfl, hmode] at hexec
  rw [hmode] at hothers
  let x := v.modify n fun _ => { r with switchMode := .follow }
  have hload : x.load n = { r with switchMode := .follow } := v.load_modify_self n _
  have hflags : x.port.flags = s.port.flags := Port.reach_flags _ _ _
  have hmarks : x.port.refusedMark = s.port.refusedMark := Port.reach_refusedMark _ _ _
  have hlists : x.listsInOrder :=
    State.listsInOrder_modify (s := v) (f := fun _ => { r with switchMode := .follow }) hl (.of_enrolled hv rfl rfl)
  have huload : u.load n = { r with switchMode := .follow } := s.load_modify_self n fun _ => { r with switchMode := .follow }
  have hentered : x.followEntered n (v.load n).switchMode = if enters then x.setRequest n pressed else x := by
    refine State.followEntered_of (by rw [hload]) ?_ _
    rw [hload]
    simpa [Load.enrolled] using hv
  rw [hentered] at hexec hothers
  have hunflagged : ∀ y : State, y.port.flags = x.port.flags → s.committedAs n y.sweepWindows = { u with
      loads := y.sweepWindows.loads, engine := y.sweepWindows.engine
      port := { u.port with refusedMark := y.sweepWindows.port.refusedMark } } := fun y hf =>
    State.committedAs_of_unflagged (u := y.sweepWindows) _ (hf.trans hflags)
  have hport : ∀ y : State, y.port.flags = s.port.flags → y.port.refusedMark = s.port.refusedMark →
      (s.committedAs n y.sweepWindows).port = u.port := fun y hf hm => by
    obtain ⟨hum, huf⟩ := s.fieldsTaken_marks n { r with switchMode := .follow }
    rw [s.committedAs_taken n { r with switchMode := .follow }, State.sweepWindows_port, hf, hm, ← hum, ← huf]
  have hstays : (s.committedAs n x.sweepWindows).engine = s.engine
      ∧ (s.committedAs n x.sweepWindows).port = u.port ∧ (u.load n).sameButWindow n (s.committedAs n x.sweepWindows) := by
    refine ⟨rfl, hport x hflags hmarks, ?_⟩
    rw [huload]
    exact Load.sameButWindow_sweepWindows hload
  by_cases he : enters
  case neg =>
    rw [if_neg he] at hexec hothers
    exact ⟨_, hexec, hothers, hunflagged x rfl, fun _ => hstays, fun h => absurd h he, fun h => absurd h he, fun h => absurd h he⟩
  rw [if_pos he] at hexec hothers
  by_cases hsame : pressed = r.request
  · rw [State.setRequest_same (s := x) (by rw [hload]; exact hsame.symm)] at hexec hothers
    refine ⟨_, hexec, hothers, hunflagged x rfl, fun _ => hstays, fun _ h h' => ?_, fun _ h h' => ?_, fun _ h h' => ?_⟩
    all_goals rw [h, h'] at hsame; cases hsame
  have hne : ¬(¬enters ∨ pressed = r.request) := by rintro (h | h); exacts [h he, hsame h]
  have hflagged : (x.setRequest n pressed).port.flags = x.port.flags := State.setRequest_flags _ _ _
  cases hpressed : pressed with
  | true =>
    have hreq : (x.load n).request = false := by
      rw [hload]
      exact Bool.eq_false_iff.mpr fun h => hsame (hpressed.trans h.symm)
    rw [hpressed, State.setRequest_on hreq] at hexec hothers hflagged
    refine ⟨_, hexec, hothers, hunflagged _ hflagged, fun h => absurd h (by rwa [hpressed] at hne), fun _ _ _ hx => ⟨?_, ?_⟩,
      fun _ _ _ hx => ?_, fun _ h => (nomatch h)⟩
    · have hturns := State.turnsOn_of (s := x) (n := n) hx hlists.2.1
      generalize (x.arriveOn n).sweepWindows = z at hturns ⊢
      exact State.turnsOn_as hturns (huload.trans hload.symm) rfl rfl rfl rfl rfl rfl
    · have hmark := State.arriveOn_refusedMark (s := x) (n := n) hx
      rw [hload, hmarks] at hmark
      exact hmark
    · rw [State.arriveOn_of_exhausted (s := x) hx, huload]
      have hyload : x.refuse.load n = { r with switchMode := .follow } := hload
      have hyengine : x.refuse.engine = s.engine := rfl
      have hymark : x.refuse.port.refusedMark = true := rfl
      generalize x.refuse = y at hyload hyengine hymark ⊢
      exact ⟨hyengine, hymark, Load.sameButWindow_sweepWindows hyload⟩
  | false =>
    have hreq : (x.load n).request = true := by
      rw [hload]
      exact Bool.eq_true_of_not_eq_false fun h => hsame (hpressed.trans h.symm)
    rw [hpressed, State.setRequest_off hreq] at hexec hothers hflagged
    refine ⟨_, hexec, hothers, hunflagged _ hflagged, fun h => absurd h (by rwa [hpressed] at hne), fun _ h => (nomatch h),
      fun _ h => (nomatch h), fun _ _ _ => ⟨?_, ?_⟩⟩
    · have hturns := State.turnsOff_of x n
      generalize (x.arriveOff n).sweepWindows = z at hturns ⊢
      exact State.turnsOff_as hturns (huload.trans hload.symm) rfl rfl rfl rfl rfl
    · exact hport _ (hflagged.trans hflags) (by rw [State.arriveOff_port, hmarks])

end Sys2Proof.Machine
end

section
/-! PROOFS. One load commit acts as its fields, its class, its request and its switch mode committed one after the other (R12,
R78). -/

namespace Sys2Proof.Machine

section
variable {n : Channel} {s t u : State} {mask mask' : Option Wide} {w : LoadWords}

/-! ## What the stages leave alike -/

/-- Two changes of a record that leave it alike and keep its window. -/
theorem State.Alike.modifyTo (h : s.Alike n t) {f g : Load → Load} (hseen : (g (t.load n)).seen = (f (s.load n)).seen)
    (hg : (g (t.load n)).window = (t.load n).window) (hf : (f (s.load n)).window = (s.load n).window) :
    (s.modify n f).Alike n (t.modify n g) := by
  refine ⟨h.surround, h.engine, h.flags, fun m => ?_, ?_⟩
  · by_cases hm : m = n
    · rw [hm, State.load_modify_self, State.load_modify_self, hseen]
    · rw [State.load_modify_of_ne _ _ hm, State.load_modify_of_ne _ _ hm, h.seen]
  · rw [State.load_modify_self, State.load_modify_self, Window.swept_congr _ (t.outputs_modify n g),
      Window.swept_congr _ (s.outputs_modify n f), hg, hf, h.window]

theorem Load.withFields_window (setup : Bool) (r : Load) : (r.withFields setup mask w).window = r.window := by
  rw [Load.withFields_eq]
  rfl

/-- The fields of two commits that name the same items beside the switch mode. -/
theorem State.Alike.commitFields (h : s.Alike n t) (hitems : ∀ i ∈ plainItems, writes mask' i = writes mask i) :
    (s.commitFields n mask w).Alike n (t.commitFields n mask' w) := by
  have hseen : ((t.load n).withFields s.setup.level mask' w).seen = ((s.load n).withFields s.setup.level mask w).seen := by
    simp only [plainItems, List.forall_mem_cons] at hitems
    obtain ⟨-, h4, h8, h10, h11, h12, h14, h16, h18, h19, h20, -⟩ := hitems
    have hblind : ∀ r : Load, (r.withFields s.setup.level mask w).seen = (r.seen.withFields s.setup.level mask w).seen :=
      fun r => by
        rw [Load.withFields_eq, Load.withFields_eq]
        rfl
    have hmask : ((t.load n).withFields s.setup.level mask' w).seen = ((t.load n).withFields s.setup.level mask w).seen := by
      rw [Load.withFields_eq, Load.withFields_eq]
      have h11' : writes mask' itemLearnEnable = writes mask itemLearnEnable := h11
      simp only [Load.takeFields, Load.seen]
      rw [show writes mask' itemDeclaredDraw = writes mask itemDeclaredDraw from h4,
        show writes mask' itemSettleTime = writes mask itemSettleTime from h8,
        show writes mask' itemHoldLine = writes mask itemHoldLine from h10, h11',
        show writes mask' itemMinOn = writes mask itemMinOn from h12,
        show writes mask' itemMinOff = writes mask itemMinOff from h14,
        show writes mask' itemHoldLimit = writes mask itemHoldLimit from h16,
        show writes mask' itemRetryLimit = writes mask itemRetryLimit from h18, h18,
        show writes mask' itemRetryBase = writes mask itemRetryBase from h19,
        show writes mask' itemRestartPolicy = writes mask itemRestartPolicy from h20]
    rw [hmask, hblind, hblind (s.load n), h.seen]
  refine State.Alike.trans ?_ (State.alike_refuseIf _)
  refine State.Alike.trans (State.alike_refuseIf _).symm ?_
  refine h.modifyTo ?_ (Load.withFields_window _ _) (Load.withFields_window _ _)
  rw [h.setup]
  exact hseen

/-- Fields that name the switch mode at most. -/
theorem State.alike_commitFields_mode (hplain : ∀ i ∈ plainItems, writes mask i = false) :
    s.Alike n (s.commitFields n mask w) := by
  refine State.Alike.trans ?_ (State.alike_refuseIf _)
  have hkept := (State.Alike.refl n s).modifyTo (f := fun r => r) (g := Load.withFields s.setup.level mask w)
    (by rw [Load.withFields_mode hplain]; rfl) (Load.withFields_window _ _) rfl
  rwa [State.modify_of_eq (f := fun r => r) rfl] at hkept

/-- The commit of a record in READY leaves the part as its last stage does, the port's pointer and mask aside. -/
theorem State.alike_committedAs (h : u.surround = s.surround) : u.Alike n (s.committedAs n u) :=
  ⟨h.symm, rfl, rfl, fun _ => rfl, rfl⟩

theorem State.surround_of_apart (h : t.apart = s.apart) : t.surround = s.surround := by
  have hsurround := congrArg State.surround h
  exact hsurround

theorem State.surround_commitLoad : (s.commitLoad n mask w).surround = s.surround :=
  State.surround_of_apart (s.commitLoad_apart n mask w)

theorem State.alike_atRecord : s.Alike n (s.atRecord n) := State.alike_of_port (Port.reach_flags _ _ _)

theorem State.Alike.barred (h : s.Alike n t) : t.barred n = s.barred n := by
  rw [State.barred, State.barred, h.state, h.engine]

theorem State.Alike.request (h : s.Alike n t) : (t.load n).request = (s.load n).request := h.field Load.request (fun _ => rfl) n

theorem State.Alike.classWritten (h : s.Alike n t) (hmask : writes mask' 2 = writes mask 2) :
    (t.load n).classWritten mask' w = (s.load n).classWritten mask w := by
  rw [Load.classWritten, Load.classWritten, itemClass, hmask, h.field Load.cls fun _ => rfl]

theorem State.Alike.followAsks (h : s.Alike n t) (hmode : (t.load n).switchMode = (s.load n).switchMode)
    (before : SwitchMode) : t.followAsks n before = s.followAsks n before := by
  rw [State.followAsks, State.followAsks, hmode, h.field Load.enrolled fun _ => rfl, h.switches]

/-! ## One commit after another -/

/-- The part after a commit of these items. -/
def State.afterItems (n : Channel) (d : Vector Byte 28) (items : Wide) (s : State) : State :=
  (s.armed items).committedAs n (((s.armed items).atRecord n).commitLoad n (some items) (loadWordsOf d))

/-- The part where such a commit begins. -/
def State.atItems (n : Channel) (items : Wide) (s : State) : State := (s.armed items).atRecord n

theorem writtenEnrolled_eq_false : writtenEnrolled mask w = some false ↔ writes mask 1 = true ∧ w.enrolled = 0x00 := by
  have hcode : flagOfCode w.enrolled = some false ↔ w.enrolled = 0x00 := not_iff_not.mp (flagOfCode_ne_false _)
  unfold writtenEnrolled
  split <;> simp_all [itemEnrolled]

/-- An item that no commit of these items names. -/
theorem writtenEnrolled_unnamed (h : writes mask 1 = false) : ¬(s.setup.level = true ∧ writtenEnrolled mask w = some false) :=
  fun ⟨_, hw⟩ => by
    obtain ⟨h1, -⟩ := writtenEnrolled_eq_false.mp hw
    rw [h] at h1
    cases h1

theorem exec_items (hp : s.powered = true) (hr : s.startup.ready = true) (d : Vector Byte 28) (items : Wide) :
    exec (.loadCommit n d) (s.armed items) = .next (s.afterItems n d items) :=
  exec_loadCommit (s := s.armed items) hp hr d

theorem State.afterItems_powered (d : Vector Byte 28) (items : Wide) : (s.afterItems n d items).powered = s.powered := rfl

theorem State.afterItems_startup (d : Vector Byte 28) (items : Wide) : (s.afterItems n d items).startup = s.startup := rfl

theorem State.afterItems_setup (d : Vector Byte 28) (items : Wide) : (s.afterItems n d items).setup = s.setup := rfl

theorem State.alike_atItems (items : Wide) : s.Alike n (s.atItems n items) :=
  State.Alike.trans (State.alike_of_port (p := { s.port with mask := some items }) rfl) State.alike_atRecord

theorem State.atItems_mark (items : Wide) : (s.atItems n items).port.refusedMark = s.port.refusedMark :=
  Port.reach_refusedMark _ _ _

theorem State.alike_afterItems (d : Vector Byte 28) (items : Wide) :
    ((s.atItems n items).commitLoad n (some items) (loadWordsOf d)).Alike n (s.afterItems n d items) := by
  refine State.alike_committedAs ?_
  exact State.surround_commitLoad.trans rfl

theorem State.afterItems_mark (d : Vector Byte 28) (items : Wide) : (s.afterItems n d items).port.refusedMark
    = ((s.atItems n items).commitLoad n (some items) (loadWordsOf d)).port.refusedMark := rfl

/-! ## The mark and the class of the stages -/

/-- What the fields of a commit refuse, item by item: those beside request and switch mode, the request and the mode. -/
theorem Load.refuses_split {setup : Bool} {r : Load} (hitems : ∀ i ∈ plainItems, writes mask' i = writes mask i)
    (hrequest : writes mask' 3 = false) (hmode : writes mask' 9 = false) :
    r.refuses setup mask w = (r.refuses setup mask' w || (writes mask 3 && (flagOfCode w.request).isNone)
      || refuseInstallCode setup (writes mask 9) r.switchMode (switchModeOfCode w.switchMode)) := by
  have hcode : ∀ {α : Type} [DecidableEq α] (held : α) (code : Option α), refuseInstallCode setup false held code = false :=
    fun held code => by cases code <;> rfl
  simp only [plainItems, List.forall_mem_cons] at hitems
  obtain ⟨h1, h4, h8, h10, h11, h12, h14, h16, h18, h19, h20, -⟩ := hitems
  simp only [Load.refuses, Load.refusesInstall, itemEnrolled, itemRequest, itemDeclaredDraw, itemSettleTime, itemSwitchMode,
    itemHoldLine, itemLearnEnable, itemMinOn, itemMinOff, itemHoldLimit, itemRetryLimit, itemRetryBase, itemRestartPolicy,
    h1, h4, h8, h10, h11, h12, h14, h16, h18, h19, h20, hrequest, hmode, hcode, Bool.false_and, Bool.or_false]
  ac_rfl

/-- The class is refused alike where the stages before leave the class and the records that are STARTING. -/
theorem State.classRefused_of {c : Nat} (hsetup : t.setup = s.setup) (hcls : ∀ m, (t.load m).cls = (s.load m).cls)
    (hstarting : ∀ m, (t.load m).state = .starting ↔ (s.load m).state = .starting) :
    t.classRefused n c = s.classRefused n c := by
  rw [Bool.eq_iff_iff, State.classRefused_iff, State.classRefused_iff]
  simp only [hsetup, hcls, hstarting]

theorem State.moveHold_starting (before : Option HoldLine) :
    ((s.moveHold n before).load n).state = .starting ↔ (s.load n).state = .starting := by
  obtain ⟨hcase, -⟩ | ⟨hcase, hd, -⟩ := s.moveHold_cases n before
  · rw [hcase]
  · rw [hcase, State.load_endHoldWait_self hd, hd]
    split
    · simp [hd]
    · obtain hc | hc := Load.cutByCause_state s.forceOff.level (s.load n) <;> simp [hc]

/-- A commit leaves the switch mode that its own item gives. -/
theorem State.switchMode_commitLoad (hv : (s.load n).state ≠ .vacant)
    (h : ¬(s.setup.level = true ∧ writtenEnrolled mask w = some false)) :
    ((s.commitLoad n mask w).load n).switchMode
      = takeInstallCode s.setup.level (writes mask 9) (s.load n).switchMode (switchModeOfCode w.switchMode) := by
  have hconfig := congrArg Load.switchMode (State.config_commitLoad hv h)
  refine Eq.trans hconfig (Eq.trans ?_ (Load.withFields_switchMode (mask := mask) (w := w) s.setup.level (s.load n)))
  rfl

end

/-! ## The items of a mask -/

theorem writes_items {mask : Option Wide} {items : Wide} (h : mask = some items ∨ (mask = none ∧ items = 0xFFFFFFFF))
    {i : Nat} (hi : i < 32) : writes mask i = items.getLsbD i := by
  obtain rfl | ⟨rfl, rfl⟩ := h
  · rfl
  · exact (show ∀ j : Fin 32, writes none j.val = (0xFFFFFFFF : Wide).getLsbD j.val by decide) ⟨i, hi⟩

theorem writes_and {mask : Option Wide} {items : Wide} (h : mask = some items ∨ (mask = none ∧ items = 0xFFFFFFFF))
    (k : Wide) {i : Nat} (hi : i < 32) : writes (some (items &&& k)) i = (writes mask i && k.getLsbD i) := by
  rw [writes_items h hi]
  exact BitVec.getLsbD_and

/-- The items that a part of the mask names. -/
theorem writes_named {mask : Option Wide} {items : Wide} (h : mask = some items ∨ (mask = none ∧ items = 0xFFFFFFFF))
    {k : Wide} {l : List Nat} (hl : ∀ i ∈ l, i < 32 ∧ k.getLsbD i = true) :
    ∀ i ∈ l, writes (some (items &&& k)) i = writes mask i := fun i hi => by
  obtain ⟨hlt, hk⟩ := hl i hi
  rw [writes_and h k hlt, hk, Bool.and_true]

theorem writes_unnamed {mask : Option Wide} {items : Wide} (h : mask = some items ∨ (mask = none ∧ items = 0xFFFFFFFF))
    {k : Wide} {l : List Nat} (hl : ∀ i ∈ l, i < 32 ∧ k.getLsbD i = false) :
    ∀ i ∈ l, writes (some (items &&& k)) i = false := fun i hi => by
  obtain ⟨hlt, hk⟩ := hl i hi
  rw [writes_and h k hlt, hk, Bool.and_false]

/-! ## The order of the stages -/

/-- Records alike with the same switch mode and window are the same. -/
theorem Load.eq_of_seen {a b : Load} (h : a.seen = b.seen) (hm : a.switchMode = b.switchMode) (hw : a.window = b.window) :
    a = b := by
  cases a
  cases b
  simp_all [Load.seen]

/-! ## What a commit of some items leaves (R12, R174) -/

section
variable {s : State} {n : Channel} {d : Vector Byte 28} {items : Wide}

/-- The end of a commit has closed the windows that the next end would close. -/
theorem State.afterItems_window (hv : (s.load n).state ≠ .vacant)
    (hk : ¬(s.setup.level = true ∧ writtenEnrolled (some items) (loadWordsOf d) = some false)) :
    ((s.afterItems n d items).load n).window.swept n (s.afterItems n d items).outputs
      = ((s.afterItems n d items).load n).window := by
  have hcommit := State.commitLoad_of_kept (s := s.atItems n items) (mask := some items) (w := loadWordsOf d) hv hk
  have hswept : ∀ u : State, (u.sweepWindows.load n).window.swept n u.sweepWindows.outputs = (u.sweepWindows.load n).window :=
    fun u => by
      rw [State.load_sweepWindows, State.sweepWindows_outputs]
      exact Window.swept_swept _ _
  have hafter : ∀ u : State, (u.load n).window.swept n u.outputs = (u.load n).window →
      ((((s.armed items).committedAs n u)).load n).window.swept n ((s.armed items).committedAs n u).outputs
        = ((((s.armed items).committedAs n u)).load n).window := fun _ h => h
  refine hafter _ ?_
  have hcommit' : ((s.armed items).atRecord n).commitLoad n (some items) (loadWordsOf d)
      = ((s.atItems n items).commitEnrolled n (some items) (loadWordsOf d)).sweepWindows := hcommit
  rw [hcommit']
  exact hswept _

theorem State.afterItems_switchMode (hv : (s.load n).state ≠ .vacant)
    (hk : ¬(s.setup.level = true ∧ writtenEnrolled (some items) (loadWordsOf d) = some false)) :
    ((s.afterItems n d items).load n).switchMode
      = takeInstallCode s.setup.level (writes (some items) 9) (s.load n).switchMode (switchModeOfCode d[9]) := by
  have hmode := State.switchMode_commitLoad (s := s.atItems n items) (mask := some items) (w := loadWordsOf d) hv hk
  exact hmode

/-- Fields beside the switch mode. -/
theorem State.afterItems_plain (hv : (s.load n).state ≠ .vacant)
    (hk : ¬(s.setup.level = true ∧ writtenEnrolled (some items) (loadWordsOf d) = some false))
    (h2 : writes (some items) 2 = false) (h3 : writes (some items) 3 = false) (h9 : writes (some items) 9 = false) :
    (((s.atItems n items).commitFields n (some items) (loadWordsOf d)).moveHold n (s.load n).holdLine).Alike n
        (s.afterItems n d items)
      ∧ (s.afterItems n d items).port.refusedMark
        = (s.port.refusedMark || (s.load n).refuses s.setup.level (some items) (loadWordsOf d)) := by
  have hcommit := State.commitLoad_plain (s := s.atItems n items) (mask := some items) (w := loadWordsOf d) hv hk h2 h3 h9
  have halike := State.alike_afterItems (n := n) (s := s) d items
  have hmark := State.afterItems_mark (n := n) (s := s) d items
  rw [hcommit] at halike hmark
  refine ⟨(State.alike_sweepWindows n _).trans halike, ?_⟩
  rw [hmark, State.sweepWindows_port, State.moveHold_refusedMark, State.commitFields_marks, State.atItems_mark]
  rfl

/-- The class alone. -/
theorem State.afterItems_class (hv : (s.load n).state ≠ .vacant) (hfields : ∀ i ∈ fieldItems, writes (some items) i = false)
    (h3 : writes (some items) 3 = false) :
    ((s.atItems n items).commitClass n (some items) (loadWordsOf d) (s.classRefused n (clampClass d[2]))).Alike n
        (s.afterItems n d items)
      ∧ (s.afterItems n d items).port.refusedMark = (s.port.refusedMark
        || (((s.load n).classWritten (some items) (loadWordsOf d)).isSome && s.classRefused n (clampClass d[2]))) := by
  have hcommit := State.commitLoad_class (s := s.atItems n items) (mask := some items) (w := loadWordsOf d) hv hfields h3
  have halike := State.alike_afterItems (n := n) (s := s) d items
  have hmark := State.afterItems_mark (n := n) (s := s) d items
  rw [hcommit] at halike hmark
  refine ⟨(State.alike_sweepWindows n _).trans halike, ?_⟩
  rw [hmark, State.sweepWindows_port, State.commitClass_marks, State.atItems_mark]
  rfl

/-- The request alone. -/
theorem State.afterItems_request (hv : (s.load n).state ≠ .vacant)
    (hfields : ∀ i ∈ fieldItems, writes (some items) i = false) (h2 : writes (some items) 2 = false) :
    ((s.atItems n items).commitRequest n (some items) (loadWordsOf d)).Alike n (s.afterItems n d items)
      ∧ (s.afterItems n d items).port.refusedMark = (s.port.refusedMark
        || (writes (some items) 3 && (flagOfCode d[3]).isNone)
        || (writtenRequest (some items) (loadWordsOf d) == some true && !(s.load n).request && s.barred n)) := by
  have hcommit := State.commitLoad_requestItem (s := s.atItems n items) (mask := some items) (w := loadWordsOf d) hv hfields h2
  have halike := State.alike_afterItems (n := n) (s := s) d items
  have hmark := State.afterItems_mark (n := n) (s := s) d items
  rw [hcommit] at halike hmark
  refine ⟨((State.alike_refuseIf _).commitRequest rfl _).trans ((State.alike_sweepWindows n _).trans halike), ?_⟩
  have hrefused := State.alike_refuseIf (s := s.atItems n items) (n := n)
    (writes (some items) 3 && (flagOfCode (loadWordsOf d).request).isNone)
  rw [hmark, State.sweepWindows_port, State.commitRequest_marks, hrefused.request, hrefused.barred, State.refuseIf_eq]
  show ((s.atItems n items).port.refusedMark || _ || _) = _
  rw [State.atItems_mark]
  rfl

/-- The switch mode alone. -/
theorem State.afterItems_mode (hv : (s.load n).state ≠ .vacant) (hplain : ∀ i ∈ plainItems, writes (some items) i = false)
    (h2 : writes (some items) 2 = false) (h3 : writes (some items) 3 = false) :
    (((s.atItems n items).commitFields n (some items) (loadWordsOf d)).followEntered n (s.load n).switchMode).Alike n
        (s.afterItems n d items)
      ∧ (s.afterItems n d items).port.refusedMark = (s.port.refusedMark
        || refuseInstallCode s.setup.level (writes (some items) 9) (s.load n).switchMode (switchModeOfCode d[9])
        || (((s.atItems n items).commitFields n (some items) (loadWordsOf d)).followAsks n (s.load n).switchMode
          && !(s.load n).request && s.barred n)) := by
  have hcommit := State.commitLoad_mode (s := s.atItems n items) (mask := some items) (w := loadWordsOf d) hv hplain h2 h3
  have halike := State.alike_afterItems (n := n) (s := s) d items
  have hmark := State.afterItems_mark (n := n) (s := s) d items
  rw [hcommit] at halike hmark
  refine ⟨(State.alike_sweepWindows n _).trans halike, ?_⟩
  have hfields := State.alike_commitFields_mode (s := s.atItems n items) (n := n) (w := loadWordsOf d) hplain
  rw [hmark, State.sweepWindows_port, State.followEntered_marks, hfields.request, hfields.barred, State.commitFields_marks,
    State.atItems_mark]
  have hrefuses : ((s.atItems n items).load n).refuses (s.atItems n items).setup.level (some items) (loadWordsOf d)
      = refuseInstallCode s.setup.level (writes (some items) 9) (s.load n).switchMode (switchModeOfCode d[9]) :=
    Load.refuses_mode hplain h3
  rw [hrefuses]
  rfl

end

theorem Load.keepLine_kept (r r' : Load) :
    (r.keepLine r').switchMode = r'.switchMode ∧ (r.keepLine r').window = r'.window := by
  obtain ⟨hcase, -⟩ | hcase := Load.keepLine_cases r r' <;> rw [hcase] <;> exact ⟨rfl, rfl⟩

theorem Load.keepLine_seen (r r' : Load) : (r.keepLine r').seen = (r.keepLine r'.seen).seen := by
  unfold Load.keepLine
  show Load.seen (if (r.on && r'.on) = true then _ else _) = Load.seen (if (r.on && r'.on) = true then _ else _)
  split <;> rfl

/-- A commit of any items acts as commits of its fields, its class, its request and its switch mode, in this order. -/
theorem commits_inOrder {s : State} {n : Channel} {d : Vector Byte 28} (hp : s.powered = true)
    (hr : s.startup.ready = true) (hv : (s.load n).state ≠ .vacant) {items : Wide}
    (hitems : s.port.mask = some items ∨ (s.port.mask = none ∧ items = 0xFFFFFFFF))
    (hkept : ¬(s.setup.level = true ∧ items.getLsbD 1 = true ∧ d[1] = 0x00)) :
    let r := s.load n
    ∃ a b c e t : State, exec (.loadCommit n d) (s.armed (items &&& 0xFFFFFDF3)) = .next a
        ∧ exec (.loadCommit n d) (a.armed (items &&& 0x00000004)) = .next b
        ∧ exec (.loadCommit n d) (b.armed (items &&& 0x00000008)) = .next c
        ∧ exec (.loadCommit n d) (c.armed (items &&& 0x00000200)) = .next e
        ∧ exec (.loadCommit n d) s = .next t ∧ s.othersSame n t
        ∧ t.engine = e.engine ∧ t.port.flags = e.port.flags ∧ t.port.refusedMark = e.port.refusedMark
        ∧ (if r.on = true ∧ (e.load n).on = true then
            ({ e.load n with dwell := r.dwell, blanking := r.blanking, diagRun := r.diagRun }) else e.load n)
          = t.load n := by
  intro r
  set w := loadWordsOf d with hw
  set mask := s.port.mask with hmask
  let v := s.atRecord n
  have hnamed1 := writes_named hitems (k := 0xFFFFFDF3) (l := plainItems) (by decide)
  obtain ⟨hA2, hA3, hA9⟩ : writes (some (items &&& 0xFFFFFDF3)) 2 = false ∧ writes (some (items &&& 0xFFFFFDF3)) 3 = false
      ∧ writes (some (items &&& 0xFFFFFDF3)) 9 = false := by
    have h := writes_unnamed hitems (k := 0xFFFFFDF3) (l := [2, 3, 9]) (by decide)
    exact ⟨h 2 (by simp), h 3 (by simp), h 9 (by simp)⟩
  have hBfields := writes_unnamed hitems (k := 0x00000004) (l := fieldItems) (by decide)
  have hB3 := writes_unnamed hitems (k := 0x00000004) (l := [3]) (by decide) 3 (by simp)
  have hB2 := writes_named hitems (k := 0x00000004) (l := [2]) (by decide) 2 (by simp)
  have hCfields := writes_unnamed hitems (k := 0x00000008) (l := fieldItems) (by decide)
  have hC2 := writes_unnamed hitems (k := 0x00000008) (l := [2]) (by decide) 2 (by simp)
  have hC3 := writes_named hitems (k := 0x00000008) (l := [3]) (by decide) 3 (by simp)
  have hEplain := writes_unnamed hitems (k := 0x00000200) (l := plainItems) (by decide)
  have hE2 := writes_unnamed hitems (k := 0x00000200) (l := [2]) (by decide) 2 (by simp)
  have hE3 := writes_unnamed hitems (k := 0x00000200) (l := [3]) (by decide) 3 (by simp)
  have hE9 := writes_named hitems (k := 0x00000200) (l := [9]) (by decide) 9 (by simp)
  obtain ⟨a, ha⟩ : ∃ a, a = s.afterItems n d (items &&& 0xFFFFFDF3) := ⟨_, rfl⟩
  obtain ⟨b, hb⟩ : ∃ b, b = a.afterItems n d (items &&& 0x00000004) := ⟨_, rfl⟩
  obtain ⟨c, hc⟩ : ∃ c, c = b.afterItems n d (items &&& 0x00000008) := ⟨_, rfl⟩
  obtain ⟨e, he⟩ : ∃ e, e = c.afterItems n d (items &&& 0x00000200) := ⟨_, rfl⟩
  have hpa : a.powered = true := by rw [ha, State.afterItems_powered, hp]
  have hpb : b.powered = true := by rw [hb, State.afterItems_powered, hpa]
  have hpc : c.powered = true := by rw [hc, State.afterItems_powered, hpb]
  have hra : a.startup.ready = true := by rw [ha, State.afterItems_startup, hr]
  have hrb : b.startup.ready = true := by rw [hb, State.afterItems_startup, hra]
  have hrc : c.startup.ready = true := by rw [hc, State.afterItems_startup, hrb]
  have hothers : s.othersSame n (s.committedAs n (v.commitLoad n mask w)) := State.commitLoad_others n mask w v
  refine ⟨a, b, c, e, _, ha ▸ exec_items hp hr d _, hb ▸ exec_items hpa hra d _, hc ▸ exec_items hpb hrb d _,
    he ▸ exec_items hpc hrc d _, exec_loadCommit hp hr d, hothers, ?_⟩
  have hkv : ¬(s.setup.level = true ∧ writtenEnrolled mask w = some false) := fun ⟨hsetup, hw⟩ => by
    obtain ⟨h1, hd⟩ := writtenEnrolled_eq_false.mp hw
    exact hkept ⟨hsetup, by rwa [← writes_items hitems (by decide)], hd⟩
  have hkA : ¬(s.setup.level = true ∧ writtenEnrolled (some (items &&& 0xFFFFFDF3)) w = some false) := fun ⟨hsetup, hw⟩ =>
    hkv ⟨hsetup, by rwa [writtenEnrolled, itemEnrolled, ← hnamed1 1 (by simp [plainItems])]⟩
  obtain ⟨u₁, h₁⟩ : ∃ u, u = v.commitFields n mask w := ⟨_, rfl⟩
  obtain ⟨u₂, h₂⟩ : ∃ u, u = u₁.moveHold n r.holdLine := ⟨_, rfl⟩
  obtain ⟨u₃, h₃⟩ : ∃ u, u = u₂.commitClass n mask w (s.classRefused n (clampClass d[2])) := ⟨_, rfl⟩
  obtain ⟨u₄, h₄⟩ : ∃ u, u = u₃.commitRequest n mask w := ⟨_, rfl⟩
  obtain ⟨u₅, h₅⟩ : ∃ u, u = u₄.followEntered n r.switchMode := ⟨_, rfl⟩
  have hcommit : v.commitLoad n mask w = (u₅.modify n r.keepLine).sweepWindows := by
    rw [State.commitLoad_of_kept (s := v) hv hkv, State.commitEnrolled_stages, h₅, h₄, h₃, h₂, h₁]
    rfl
  obtain ⟨hafterA, hmarkA⟩ := State.afterItems_plain (s := s) (d := d) hv hkA hA2 hA3 hA9
  have hA : u₂.Alike n a := by
    rw [h₂, ha, h₁]
    exact ((((State.alike_atRecord (s := s) (n := n)).symm.trans (State.alike_atItems _)).commitFields hnamed1).moveHold
      _).trans hafterA
  have henrolled₂ : (u₂.load n).state ≠ .vacant := by
    rw [h₂]
    refine State.moveHold_enrolled ?_ _
    rw [h₁, State.load_commitFields, Load.withFields_state]
    exact hv
  have hva : (a.load n).state ≠ .vacant := by rwa [hA.state]
  obtain ⟨hafterB, hmarkB⟩ := State.afterItems_class (s := a) (d := d) hva hBfields hB3
  have hrefused : a.classRefused n (clampClass d[2]) = s.classRefused n (clampClass d[2]) := by
    have happart : u₂.apart = v.apart := by
      rw [h₂, State.moveHold_apart, h₁, State.commitFields, State.refuseIf_apart, State.modify_apart]
    have hothers₂ : ∀ m, m ≠ n → u₂.load m = s.load m := fun m hm => by
      refine State.load_of_others (s := v) ?_ hm
      rw [h₂, State.moveHold_others, h₁, State.commitFields, State.refuseIf_others, State.modify_others]
    have hcls₂ : (u₂.load n).cls = (s.load n).cls := by
      rw [h₂, State.moveHold_cls, h₁, State.load_commitFields, Load.withFields_cls]
      rfl
    have hstate₂ : (u₂.load n).state = .starting ↔ (s.load n).state = .starting := by
      rw [h₂, State.moveHold_starting, h₁, State.load_commitFields, Load.withFields_state]
      exact Iff.rfl
    refine State.classRefused_of (hA.setup.trans (State.setup_of_apart (s := v) happart)) (fun m => ?_) fun m => ?_
    · rw [hA.field Load.cls fun _ => rfl]
      by_cases hm : m = n
      · rwa [hm]
      · rw [hothers₂ m hm]
    · rw [hA.state]
      by_cases hm : m = n
      · rwa [hm]
      · rw [hothers₂ m hm]
  have hB : u₃.Alike n b := by
    rw [h₃, hb]
    rw [hrefused] at hafterB
    exact ((hA.trans (State.alike_atItems _)).commitClass hB2 w _).trans hafterB
  have hvb : (b.load n).state ≠ .vacant := by
    have hasked := (State.sameAsked_commitClass (s := u₂) (n := n) mask w (s.classRefused n (clampClass d[2]))).enrolled
    rw [hB.state, h₃]
    simpa [Load.enrolled] using hasked.trans (by simpa [Load.enrolled] using henrolled₂ : (u₂.load n).enrolled = true)
  obtain ⟨hafterC, hmarkC⟩ := State.afterItems_request (s := b) (d := d) hvb hCfields hC2
  have hC : u₄.Alike n c := by
    rw [h₄, hc]
    exact ((hB.trans (State.alike_atItems _)).commitRequest hC3 w).trans hafterC
  have hvc : (c.load n).state ≠ .vacant := by
    have hasked := State.commitRequest_enrolled (s := u₃) (n := n) (mask := mask) (w := w)
    have hvb' : (u₃.load n).state ≠ .vacant := by rwa [hB.state] at hvb
    rw [hC.state, h₄]
    simpa [Load.enrolled] using hasked.trans (by simpa [Load.enrolled] using hvb' : (u₃.load n).enrolled = true)
  obtain ⟨hafterE, hmarkE⟩ := State.afterItems_mode (s := c) (d := d) hvc hEplain hE2 hE3
  have hmode : (c.load n).switchMode = r.switchMode := by
    rw [hc, State.afterItems_switchMode hvb (writtenEnrolled_unnamed (hCfields 1 (by simp [fieldItems]))),
      hCfields 9 (by simp [fieldItems]), takeInstallCode_unnamed, hb,
      State.afterItems_switchMode hva (writtenEnrolled_unnamed (hBfields 1 (by simp [fieldItems]))),
      hBfields 9 (by simp [fieldItems]), takeInstallCode_unnamed, ha, State.afterItems_switchMode hv hkA, hA9,
      takeInstallCode_unnamed]
  have hfields : u₄.Alike n ((c.atItems n (items &&& 0x00000200)).commitFields n (some (items &&& 0x00000200)) w) :=
    (hC.trans (State.alike_atItems _)).trans (State.alike_commitFields_mode hEplain)
  have hsetup : c.setup = s.setup := by
    rw [hc, State.afterItems_setup, hb, State.afterItems_setup, ha, State.afterItems_setup]
  have hmodes : (((c.atItems n (items &&& 0x00000200)).commitFields n (some (items &&& 0x00000200)) w).load n).switchMode
      = (u₄.load n).switchMode := by
    have hconfig : u₄.config n = (r.withFields s.setup.level mask w).config := by
      rw [h₄, State.commitRequest_config, h₃, State.commitClass_config, h₂, State.moveHold_config, h₁, State.config,
        State.load_commitFields]
      rfl
    have hmode₄ : (u₄.load n).switchMode = (r.withFields s.setup.level mask w).switchMode := by
      have hfield := congrArg Load.switchMode hconfig
      exact hfield
    rw [hmode₄, State.load_commitFields, Load.withFields_switchMode, Load.withFields_switchMode, hE9]
    show takeInstallCode c.setup.level _ (c.load n).switchMode _ = _
    rw [hsetup, hmode]
  have hE : u₅.Alike n e := by
    rw [h₅, he]
    rw [hmode] at hafterE
    exact (hfields.followEntered hmodes).trans hafterE
  rw [hcommit]
  have hfollow := hfields.followAsks hmodes r.switchMode
  refine ⟨hE.engine.symm, hE.flags.symm, ?_, ?_⟩
  · have hmarkT : u₅.port.refusedMark = (s.port.refusedMark || r.refuses s.setup.level mask w
        || (((u₂.load n).classWritten mask w).isSome && s.classRefused n (clampClass d[2]))
        || (writtenRequest mask w == some true && !(u₃.load n).request && u₃.barred n)
        || (u₄.followAsks n r.switchMode && !(u₄.load n).request && u₄.barred n)) := by
      have hvmark : v.port.refusedMark = s.port.refusedMark := Port.reach_refusedMark _ _ _
      rw [h₅, State.followEntered_marks, h₄, State.commitRequest_marks, h₃, State.commitClass_marks, h₂,
        State.moveHold_refusedMark, h₁, State.commitFields_marks, hvmark]
      rfl
    have hwritten : writtenRequest (some (items &&& 0x00000008)) w = writtenRequest mask w := by
      rw [writtenRequest, writtenRequest, itemRequest, hC3]
    rw [← ha] at hmarkA
    rw [← hb, hmarkA, hA.classWritten hB2, hrefused] at hmarkB
    rw [← hc, hmarkB, hC3, hwritten, hB.request, hB.barred] at hmarkC
    rw [← he, hmarkC, hE9, hmode, hfollow, hC.request, hC.barred, hsetup] at hmarkE
    refine Eq.trans hmarkT (Eq.trans ?_ hmarkE.symm)
    rw [Load.refuses_split hnamed1 hA3 hA9]
    ac_rfl
  · have hmode₅ : (e.load n).switchMode = (u₅.load n).switchMode := by
      have hconfig : u₅.config n = u₄.config n := by rw [h₅, State.followEntered_config]
      have hfield : (u₅.load n).switchMode = (u₄.load n).switchMode := by
        have hfield := congrArg Load.switchMode hconfig
        exact hfield
      rw [hfield, ← hmodes, he, State.afterItems_switchMode hvc (writtenEnrolled_unnamed (hEplain 1 (by simp [plainItems]))),
        State.load_commitFields, Load.withFields_switchMode]
      rfl
    have hclosed : (e.load n).window = (u₅.load n).window.swept n u₅.outputs := by
      rw [← hE.window, he]
      exact (State.afterItems_window hvc (writtenEnrolled_unnamed (hEplain 1 (by simp [plainItems])))).symm
    have hkeep : (if r.on = true ∧ (e.load n).on = true then
        ({ e.load n with dwell := r.dwell, blanking := r.blanking, diagRun := r.diagRun }) else e.load n)
          = r.keepLine (e.load n) := by
      simp only [Load.keepLine, Bool.and_eq_true]
    rw [hkeep]
    refine Eq.trans ?_ (State.load_sweepWindows (u₅.modify n r.keepLine) n).symm
    rw [State.load_modify_self]
    refine Load.eq_of_seen ?_ ?_ ?_
    · rw [Load.keepLine_seen, hE.seen, ← Load.keepLine_seen]
      rfl
    · rw [(Load.keepLine_kept r _).1, hmode₅]
      exact (Load.keepLine_kept r _).1.symm
    · rw [(Load.keepLine_kept r _).2, hclosed, (Load.keepLine_kept r _).2]
      exact (Window.swept_congr _ (u₅.outputs_modify n r.keepLine)).symm

/-- Settles O60: a new hold line, an entry into FOLLOW, and the stages of any commit one after the other. -/
theorem loadCommitEventsActInOrder : Obligations.LoadCommitEventsActInOrder := fun _ _ _ hp hr hl hv =>
  ⟨fun line hsetup hmask hcode => holdLineCommit_acts hp hr hv line hsetup hmask hcode,
    fun hsetup hmask hcode => followCommit_acts hp hr hl hv hsetup hmask hcode,
    fun _ hitems hkept => commits_inOrder hp hr hv hitems hkept⟩

end Sys2Proof.Machine
end

section
/-! PROOFS. A record read and written back (R13, R183, R184). -/

namespace Sys2Proof.Machine

/-! ## Bytes and words (0.6, R183, R184) -/

theorem be16_halfBytes (h : Half) : be16 (h.extractLsb' 8 8) (h.extractLsb' 0 8) = h := by
  unfold be16
  ext i hi
  simp only [BitVec.getElem_append, BitVec.getElem_extractLsb']
  split
  · rw [Nat.zero_add, BitVec.getLsbD_eq_getElem]
  · rw [← BitVec.getLsbD_eq_getElem]
    congr 1
    omega

/-- The byte of a record at a place of its list. -/
theorem getElem_of_toList {size : Nat} {d : Vector Byte size} {l : List Byte} (h : d.toList = l) (i : Nat)
    (hi : i < size) : d[i] = l.getD i 0 := by
  rw [← h]
  simp [List.getD, hi]

/-- The words that a load record gives when it is written back (R183). -/
def loadWords (r : Load) : LoadWords where
  enrolled := flagCode r.enrolled
  cls := BitVec.ofNat 8 r.cls
  request := flagCode r.request
  declaredDraw := BitVec.ofNat 16 r.declaredDraw
  settleTime := BitVec.ofNat 8 r.settleTime
  switchMode := switchModeCode r.switchMode
  holdLine := holdLineCode r.holdLine
  learnEnable := flagCode r.learnEnable
  minOn := BitVec.ofNat 16 r.minOn
  minOff := BitVec.ofNat 16 r.minOff
  holdLimit := BitVec.ofNat 16 r.holdLimit
  retryLimit := BitVec.ofNat 8 r.retryLimit
  retryBase := BitVec.ofNat 8 r.retryBase
  restartPolicy := restartPolicyCode r.restartPolicy

theorem loadWordsOf_bytes {d : Vector Byte 28} {r : Load} (h : d.toList = r.bytes) : loadWordsOf d = loadWords r := by
  have hd := getElem_of_toList h
  simp only [loadWordsOf, hd, Load.bytes, halfBytes, List.cons_append, List.nil_append, List.getD_cons_succ,
    List.getD_cons_zero, be16_halfBytes, loadWords]

theorem meterWordsOf_bytes {d : Vector Byte 32} {m : Meter} (h : d.toList = meterBytes (meterWords m) ++ List.replicate 11 0) :
    meterWordsOf d = meterWords m := by
  have hd := getElem_of_toList h
  simp only [meterWordsOf, hd, meterBytes, halfBytes, List.cons_append, List.nil_append, List.getD_cons_succ,
    List.getD_cons_zero, be16_halfBytes]

theorem budgetWordsOf_bytes {d : Vector Byte 32} {b : Budget}
    (h : d.toList = budgetBytes (budgetWords b) ++ List.replicate 17 0) : budgetWordsOf d = budgetWords b := by
  have hd := getElem_of_toList h
  simp only [budgetWordsOf, hd, budgetBytes, halfBytes, List.cons_append, List.nil_append, List.getD_cons_succ,
    List.getD_cons_zero, be16_halfBytes]

theorem restWordsOf_bytes {d : Vector Byte 32} {p : Vector Point 8}
    (h : d.toList = p.toList.flatMap fun p => pointBytes (pointWords p)) (i : Fin 8) : (restWordsOf d)[i] = pointWords p[i] := by
  have hd := getElem_of_toList h
  have hp : p = #v[p[0], p[1], p[2], p[3], p[4], p[5], p[6], p[7]] := by
    ext j hj : 1
    interval_cases j <;> rfl
  have hlist : p.toList = [p[0], p[1], p[2], p[3], p[4], p[5], p[6], p[7]] := by
    rw [hp]
    rfl
  rw [restWordsOf_get]
  simp only [hd, hlist, List.flatMap_cons, List.flatMap_nil, pointBytes, halfBytes, List.cons_append, List.nil_append]
  fin_cases i <;> simp only [List.getD_cons_succ, List.getD_cons_zero, be16_halfBytes, Nat.reduceMul, Nat.reduceAdd] <;> rfl

/-! ## The values held come back (R4, R8, R41, R59, R60, R69) -/

theorem toNat_ofNat16 {v : Nat} (h : v ≤ 65535) : (BitVec.ofNat 16 v).toNat = v := by
  rw [BitVec.toNat_ofNat]
  omega

theorem toNat_ofNat8 {v : Nat} (h : v ≤ 255) : (BitVec.ofNat 8 v).toNat = v := by
  rw [BitVec.toNat_ofNat]
  omega

theorem clampTo_of {lo hi v : Nat} (h : lo ≤ v) (h' : v ≤ hi) : clampTo lo hi v = v := by
  unfold clampTo
  omega

theorem meterOfWords_meterWords {m : Meter} (h : m.lawful) : meterOfWords (meterWords m) = m := by
  obtain ⟨⟨hc, hc'⟩, ⟨hp, hp'⟩, ⟨he, he'⟩, hr, ⟨hq, hq'⟩, hf, ⟨ht, ht'⟩, hi, htol, hv, htail, ⟨hft, hft'⟩⟩ := h
  simp only [meterOfWords, meterWords]
  rw [toNat_ofNat16 (by omega), toNat_ofNat16 (by omega), toNat_ofNat16 (by omega), toNat_ofNat16 (by omega),
    toNat_ofNat16 (by omega), toNat_ofNat8 (by omega), toNat_ofNat8 (by omega), toNat_ofNat16 hi,
    toNat_ofNat16 (by omega), toNat_ofNat16 (by omega), toNat_ofNat16 htail, toNat_ofNat8 (by omega),
    clampTo_of hc hc', clampTo_of hp hp', clampTo_of he he', clampTo_of hq hq', clampTo_of ht ht', clampTo_of hft hft',
    min_eq_left hr, min_eq_left hf, min_eq_left htol, min_eq_left hv]

theorem budgetOfWords_budgetWords {b : Budget} (h : b.lawful) : budgetOfWords (budgetWords b) = b := by
  obtain ⟨hf, hf', hv, hv', ⟨ha, ha'⟩, hm, ⟨hs, hs'⟩, ⟨hc, hc'⟩, ⟨hd, hd'⟩⟩ := h
  simp only [budgetOfWords, budgetWords]
  rw [toNat_ofNat16 (by omega), toNat_ofNat16 (by omega), toNat_ofNat16 (by omega), toNat_ofNat16 (by omega),
    toNat_ofNat16 ha', toNat_ofNat16 hm, toNat_ofNat8 (by omega), toNat_ofNat8 (by omega), toNat_ofNat8 (by omega),
    clampTo_of hs hs', clampTo_of hc hc', clampTo_of hd hd', min_eq_left hv', min_eq_left (by omega : b.vCut ≤ 32767),
    min_eq_left hf', min_eq_left (by omega : b.fFloor ≤ 1000), max_eq_right ha]

theorem restOfWords_bytes {d : Vector Byte 32} {p : Vector Point 8}
    (h : d.toList = p.toList.flatMap fun p => pointBytes (pointWords p)) (hl : restLawful p) :
    restOfWords (restWordsOf d) = p := by
  obtain ⟨hrange, -⟩ := hl
  ext j hj : 1
  obtain ⟨hv, hf⟩ := hrange ⟨j, hj⟩
  have hw := restWordsOf_bytes h ⟨j, hj⟩
  simp only [Fin.getElem_fin] at hw hv hf
  simp only [restOfWords, Vector.getElem_ofFn, Fin.getElem_fin, hw, pointOfWords, pointWords]
  rw [toNat_ofNat16 (by omega), toNat_ofNat16 (by omega), min_eq_left hv, min_eq_left hf]

/-! ## Commits of the values held -/

section
variable {s : State}

theorem State.refuseIf_false (s : State) : s.refuseIf false = s := rfl

/-- A profile that is proposed as it is held is taken or kept, and changes nothing (R41, R58, R69, R72). -/
theorem State.commitMeter_held (hm : s.meter.lawful) (hq : s.reserveLaw) :
    s.commitMeter none (meterWords s.meter) = s := by
  have hproposed : (meterOfWords (meterWords s.meter)).proposed none s.meter = s.meter := by
    rw [meterOfWords_meterWords hm]
    rfl
  have hclamped : s.reserve.clampTo s.meter = s.reserve := by
    unfold Reserve.clampTo
    split
    case h_1 q hsome => rw [if_neg (Nat.not_lt.mpr (hq.1 q hsome))]
    case h_2 => rfl
  by_cases hs : s.setup.level = true
  · rw [State.commitMeter_of_setup hs, hproposed, State.takeMeter, hclamped]
  · rw [State.commitMeter_of_released (by simpa using hs), hproposed, decide_eq_false (by simp), State.refuseIf_false]

theorem State.commitBudget_held (hb : s.budget.lawful) (ha : s.allowanceLaw) :
    s.commitBudget none (budgetWords s.budget) = s := by
  have hproposed : (budgetOfWords (budgetWords s.budget)).proposed none s.budget = s.budget := by
    rw [budgetOfWords_budgetWords hb]
    rfl
  have hcorrected : s.budget.corrected = s.budget := by
    obtain ⟨hf, -, hv, -⟩ := hb
    simp only [Budget.corrected, keepAbove, if_pos hf, if_pos hv]
  simp only [State.commitBudget, hproposed]
  split
  · have hallowed : min s.engine.allowance (s.budget.aMax * 10) = s.engine.allowance := min_eq_left ha
    rw [hcorrected, State.takeBudget, hallowed]
  · rw [decide_eq_false (by simp), State.refuseIf_false]

theorem State.commitRest_held {w : Vector PointWords 8} (hw : restOfWords w = s.rest) (hl : restLawful s.rest) :
    s.commitRest none w = s := by
  have hproposed : proposedRest none (restOfWords w) s.rest = s.rest := by
    rw [hw]
    ext j hj : 1
    simp only [proposedRest, Vector.getElem_ofFn]
    rfl
  obtain ⟨-, hordered⟩ := hl
  simp only [State.commitRest, hproposed]
  split
  · rw [if_pos (restOrdered_iff.mpr fun i => hordered _ _ (Fin.castSucc_lt_succ))]
  · rw [decide_eq_false (by simp), State.refuseIf_false]

/-- A profile commit that leaves the part as it is moves the pointer alone (R171, log 14). -/
theorem State.maskedCommit_held {index : Nat} {effect : Option Wide → State → State} (hmask : s.port.mask = none)
    (h : effect none { s with port := s.port.reach .profile index } = { s with port := s.port.reach .profile index }) :
    s.maskedCommit .profile index effect
      = { s with port := s.port.afterRecord .profile index (nextIndex .profile index) } := by
  rw [State.maskedCommit_profile (u := s) index effect (by rw [hmask]; exact h)]
  have hport : ({ s.port.afterRecord .profile index (nextIndex .profile index) with mask := none } : Port)
      = s.port.afterRecord .profile index (nextIndex .profile index) := by
    unfold Port.afterRecord
    split <;> simp [hmask]
  rw [hport]

/-! ## A load record written back (R13) -/

theorem takeInstall_same {α : Type} (setup written : Bool) (held : α) : takeInstall setup written held held = held := by
  unfold takeInstall
  split <;> rfl

theorem flagOfCode_flagCode (b : Bool) : flagOfCode (flagCode b) = some b := by cases b <;> rfl

theorem switchModeOfCode_switchModeCode (m : SwitchMode) : switchModeOfCode (switchModeCode m) = some m := by
  cases m <;> rfl

theorem holdLineOfCode_holdLineCode (h : Option HoldLine) : holdLineOfCode (holdLineCode h) = some h := by
  revert h; decide

theorem restartPolicyOfCode_restartPolicyCode (p : RestartPolicy) :
    restartPolicyOfCode (restartPolicyCode p) = some p := by
  cases p <;> rfl

/-- The clamped fields of a record in range, written back, are those held (R8). -/
structure Load.ComesBack (r : Load) : Prop where
  cls : clampClass (loadWords r).cls = r.cls
  declaredDraw : clampDeclared (loadWords r).declaredDraw = r.declaredDraw
  settleTime : clampSettle (loadWords r).settleTime = r.settleTime
  minOn : clampMinTime (loadWords r).minOn = r.minOn
  minOff : clampMinTime (loadWords r).minOff = r.minOff
  holdLimit : clampHoldLimit (loadWords r).holdLimit = r.holdLimit
  retryLimit : clampRetryLimit (loadWords r).retryLimit = r.retryLimit
  retryBase : clampRetryBase (loadWords r).retryBase = r.retryBase

theorem Load.inRange.comesBack {r : Load} (hr : r.inRange) : r.ComesBack := by
  obtain ⟨hc, ⟨hd, hd'⟩, -, ⟨hs, hs'⟩, hon, hoff, ⟨hh, hh'⟩, hlimit, ⟨hb, hb'⟩, -⟩ := hr
  constructor <;> simp only [loadWords]
  · rw [clampClass, toNat_ofNat8 (by omega), min_eq_left hc]
  · rw [clampDeclared, toNat_ofNat16 (by omega), clampTo_of hd hd']
  · rw [clampSettle, toNat_ofNat8 (by omega), clampTo_of hs hs']
  · rw [clampMinTime, toNat_ofNat16 (by omega), min_eq_left hon]
  · rw [clampMinTime, toNat_ofNat16 (by omega), min_eq_left hoff]
  · rw [clampHoldLimit, toNat_ofNat16 (by omega), clampTo_of hh hh']
  · rw [clampRetryLimit, toNat_ofNat8 (by omega), min_eq_left hlimit]
  · rw [clampRetryBase, toNat_ofNat8 (by omega), max_eq_right hb]

theorem Load.withFields_held {r : Load} (hr : r.inRange) (hu : r.retriesLaw) (setup : Bool) :
    r.withFields setup none (loadWords r) = r := by
  obtain ⟨-, hdraw, hsettle, hon, hoff, hhold, hlimit, hbase⟩ := hr.comesBack
  have hmode : switchModeOfCode (loadWords r).switchMode = some r.switchMode := switchModeOfCode_switchModeCode _
  have hline : holdLineOfCode (loadWords r).holdLine = some r.holdLine := holdLineOfCode_holdLineCode _
  have hpolicy : restartPolicyOfCode (loadWords r).restartPolicy = some r.restartPolicy :=
    restartPolicyOfCode_restartPolicyCode _
  have hlearn : flagOfCode (loadWords r).learnEnable = some r.learnEnable := flagOfCode_flagCode _
  have hused : (if (setup && writes none 18) = true then (if r.state = .locked then r.retryLimit + 1
      else min r.retriesUsed r.retryLimit) else r.retriesUsed) = r.retriesUsed := by
    obtain ⟨hmost, hlocked⟩ := hu
    split
    · split
      · next hs => exact (hlocked.mpr hs).symm
      · next hs =>
        have hne : r.retriesUsed ≠ r.retryLimit + 1 := fun h => hs (hlocked.mp h)
        exact min_eq_left (by omega)
    · rfl
  rw [Load.withFields_eq, hlimit, hused]
  simp only [Load.takeFields, hdraw, hsettle, hon, hoff, hhold, hlimit, hbase, hmode, hline, hpolicy, hlearn,
    takeInstallCode, takeInstall_same, Option.getD_some, ite_self]

theorem Load.refuses_held {r : Load} (hr : r.inRange) (hv : r.state ≠ .vacant) (setup : Bool) :
    r.refuses setup none (loadWords r) = false := by
  obtain ⟨-, hdraw, hsettle, hon, hoff, hhold, hlimit, hbase⟩ := hr.comesBack
  have hmode : switchModeOfCode (loadWords r).switchMode = some r.switchMode := switchModeOfCode_switchModeCode _
  have hline : holdLineOfCode (loadWords r).holdLine = some r.holdLine := holdLineOfCode_holdLineCode _
  have hpolicy : restartPolicyOfCode (loadWords r).restartPolicy = some r.restartPolicy :=
    restartPolicyOfCode_restartPolicyCode _
  have hlearn : flagOfCode (loadWords r).learnEnable = some r.learnEnable := flagOfCode_flagCode _
  have hrequest : flagOfCode (loadWords r).request = some r.request := flagOfCode_flagCode _
  have henrolled : flagOfCode (loadWords r).enrolled = some true := by
    rw [loadWords, flagOfCode_flagCode, Load.enrolled, bne_iff_ne.mpr hv]
  have hsame : ∀ {α : Type} [DecidableEq α] (written : Bool) (held : α), refuseInstall setup written held held = false :=
    fun written held => by simp [refuseInstall]
  simp only [Load.refuses, Load.refusesInstall, hdraw, hsettle, hon, hoff, hhold, hlimit, hbase, hmode, hline, hpolicy,
    hlearn, hrequest, henrolled, refuseInstallCode, hsame, Option.isNone_some, Bool.and_false, Bool.or_false]

/-- A load record written back with SETUP asserted leaves the record, and what it hands on is nothing. -/
theorem State.commitLoad_held {n : Channel} (hr : (s.load n).inRange) (hu : (s.load n).retriesLaw)
    (hvacant : (s.load n).vacantLaw) : s.commitLoad n none (loadWords (s.load n)) = s.sweepWindows := by
  by_cases hv : (s.load n).state = .vacant
  · have hdefault := hvacant hv
    rw [State.commitLoad_of_vacant hv, State.commitVacant, hdefault, if_neg]
    · rw [show ({} : Load).vacantRefuses none (loadWords {}) = false by decide, State.refuseIf_false]
    · rw [show writtenEnrolled none (loadWords {}) = some false by decide]
      simp
  · have henrolled : ¬(s.setup.level = true ∧ writtenEnrolled none (loadWords (s.load n)) = some false) := by
      rintro ⟨-, h⟩
      obtain ⟨-, hzero⟩ := writtenEnrolled_eq_false.mp h
      rw [loadWords, Load.enrolled, bne_iff_ne.mpr hv] at hzero
      exact absurd hzero (show (0x01 : Byte) ≠ 0x00 by decide)
    rw [State.commitLoad_quiet hv henrolled]
    · have hfields : (s.load n).withFields s.setup.level none (loadWords (s.load n)) = s.load n :=
        Load.withFields_held hr hu _
      rw [State.commitFields, Load.refuses_held hr hv, State.refuseIf_false, State.modify_of_eq hfields]
    · rw [← Bool.not_eq_true, Load.classWritten_isSome, hr.comesBack.cls]
      simp
    · intro on hon
      obtain ⟨-, hcode⟩ := writtenRequest_eq_some.mp hon
      rw [loadWords, flagOfCode_flagCode] at hcode
      exact (Option.some.inj hcode).symm
    · rw [Load.withFields_held hr hu]
      simp
    · rw [Load.withFields_held hr hu]
      exact fun ⟨hne, heq, _⟩ => hne heq

end

/-- Settles O46: the words written back are those held, so that each commit is its identity. -/
theorem recordsReadAndWrittenBackChangeNothing : Obligations.RecordsReadAndWrittenBackChangeNothing := by
  intro s hp hr hmask hlists hretries hrange hmeter hbudget hrest hallowance hreserve
  have hafter : ∀ (space : Space) (index next : Nat),
      ({ s.port.afterRecord space index next with mask := none } : Port) = s.port.afterRecord space index next :=
    fun space index next => by
      unfold Port.afterRecord
      split <;> simp [hmask]
  refine ⟨fun n d hsetup hd => ?_, fun d => ⟨fun hd => ?_, fun hd => ?_, fun hd => ?_⟩⟩
  · have hbytes : d.toList = (s.load n).bytes := by
      rw [hd]
      simp [State.recordBytes, State.load]
    have hexec := exec_loadCommit (n := n) hp hr d
    have hheld : (s.atRecord n).commitLoad n none (loadWords (s.load n)) = (s.atRecord n).sweepWindows :=
      State.commitLoad_held (s := s.atRecord n) (hrange.1 n) (hretries n).1 (hretries n).2
    rw [hmask, loadWordsOf_bytes hbytes, hheld] at hexec
    refine ⟨_, hexec, ?_, fun m => Load.sameButWindow_sweepWindows (s := s.atRecord n) rfl⟩
    have hmarks : (s.atRecord n).sweepWindows.port.refusedMark = s.port.refusedMark := Port.reach_refusedMark _ _ _
    have hflags : (s.atRecord n).sweepWindows.port.flags = s.port.flags := Port.reach_flags _ _ _
    rw [State.committedAs_of_loads (u := (s.atRecord n).sweepWindows) (s.load n) hmarks hflags rfl, State.fieldsTaken, hafter]
  · refine (whenAnswering_of hp hr _).trans (congrArg _ (State.maskedCommit_held hmask ?_))
    rw [meterWordsOf_bytes hd]
    exact State.commitMeter_held (s := { s with port := s.port.reach .profile 0 }) hmeter hreserve
  · refine (whenAnswering_of hp hr _).trans (congrArg _ (State.maskedCommit_held hmask ?_))
    rw [budgetWordsOf_bytes hd]
    exact State.commitBudget_held (s := { s with port := s.port.reach .profile 1 }) hbudget hallowance
  · refine (whenAnswering_of hp hr _).trans (congrArg _ (State.maskedCommit_held hmask ?_))
    exact State.commitRest_held (s := { s with port := s.port.reach .profile 2 }) (restOfWords_bytes hd hrest) hrest

end Sys2Proof.Machine
end

section
/-! PROOFS. The port's own writes and its reads (R167 to R174, R177 to R181, R183 to R186). -/

namespace Sys2Proof.Machine

/-! ## The ALERT line (R181) -/

theorem byte_ne_zero_iff (x : Byte) : x ≠ 0 ↔ ∃ bit : Fin 8, x[bit] = true := by
  rw [← not_iff_not]
  push Not
  constructor
  · rintro rfl bit
    simp
  · intro h
    ext i hi
    simpa using h ⟨i, hi⟩

theorem State.alertLow_iff (s : State) :
    s.alertLow = true ↔ ∃ bit : Fin 8, s.port.flags[bit] = true ∧ s.port.enables[bit] = true := by
  rw [State.alertLow, bne_iff_ne, byte_ne_zero_iff]
  simp

/-! ## Spaces (R168) -/

/-- A space code names its space, with its number of records (R168). -/
theorem spaceOfCode_of {code : Byte} {sp : Space} {count : Nat} (h : (code.toNat, sp, count) ∈
    [(1, Space.load, 12), (2, Space.profile, 3), (3, Space.status, 1), (4, Space.command, 7), (5, Space.lists, 2)]) :
    spaceOfCode code = some sp ∧ sp.records = count ∧ disarms sp = decide (2 < code.toNat) := by
  simp only [List.mem_cons, Prod.mk.injEq, List.not_mem_nil, or_false] at h
  obtain ⟨hc, rfl, rfl⟩ | ⟨hc, rfl, rfl⟩ | ⟨hc, rfl, rfl⟩ | ⟨hc, rfl, rfl⟩ | ⟨hc, rfl, rfl⟩ := h
  all_goals
    rw [hc]
    have hcode : code = BitVec.ofNat 8 code.toNat := by simp
    rw [hcode, hc]
    decide

theorem spaceOfCode_unnamed {code : Byte} (h : code.toNat = 0 ∨ 5 < code.toNat) : spaceOfCode code = none := by
  revert code
  decide

section
variable {s : State}

theorem exec_pointerSet (hp : s.powered = true) (hr : s.startup.ready = true) {address : BitVec 7} {space index : Byte}
    {sp : Space} (h : spaceOfCode space = some sp) : exec (.pointerSet address space index) s = .next
      (if address = s.port.address ∧ index.toNat < sp.records then { s with port := s.port.pointAt sp index.toNat } else s) := by
  refine (whenAnswering_of hp hr _).trans ?_
  rw [h]

/-- Settles O47: the pointer, the discarded bytes and the mask, and the ALERT line from flags and enables. -/
theorem portWritesSetPointerMarksAndMask : Obligations.PortWritesSetPointerMarksAndMask := by
  refine ⟨State.alertLow_iff, fun s hp hr => ⟨fun address space index => ⟨fun sp count hmem => ?_, fun h => ?_⟩,
    fun sp index data hwell => ?_, fun index data => ?_, fun d => ?_, fun argument => ?_⟩⟩
  · obtain ⟨hcode, hcount, hdisarms⟩ := spaceOfCode_of hmem
    have hexec := exec_pointerSet (address := address) (index := index) hp hr hcode
    rw [hcount] at hexec
    refine ⟨fun haddress hindex => ?_, fun hindex => ?_⟩
    · rw [hexec, if_pos ⟨haddress, hindex⟩, Port.pointAt, hdisarms]
      by_cases hspace : space.toNat ≤ 2
      · rw [if_pos hspace, if_neg (by simpa using hspace)]
      · rw [if_neg hspace, if_pos (by simpa using hspace)]
    · rw [hexec, if_neg fun ⟨_, hlt⟩ => absurd hlt (by omega)]
  · obtain haddress | hspace := h
    · cases hcode : spaceOfCode space with
      | none =>
        refine (whenAnswering_of hp hr _).trans ?_
        rw [hcode]
      | some sp => rw [exec_pointerSet hp hr hcode, if_neg fun ⟨h, _⟩ => haddress h]
    · refine (whenAnswering_of hp hr _).trans ?_
      rw [spaceOfCode_unnamed hspace]
  · refine (whenAnswering_of hp hr _).trans ?_
    rw [if_pos (c := stagedWell sp index data = true) hwell]
    rfl
  · exact whenAnswering_of hp hr _
  · refine (whenAnswering_of hp hr _).trans (congrArg _ ?_)
    simp only [State.commitAt, State.commitStatus, Port.committed, Port.reach, Port.afterRecord]
    split <;> rfl
  · refine (whenAnswering_of hp hr _).trans ?_
    rw [State.command_eq (u := { s with port := s.port.reach .command 6 }) (by decide) rfl rfl]
    rfl

end

end Sys2Proof.Machine
end

section
/-! PROOFS. The layouts of the records (R105, R168, R177, R183 to R186). -/

namespace Sys2Proof.Machine

/-! ## Numbers and marks as bytes (0.6) -/

theorem halfBytes_ofNat (v : Nat) : halfBytes (BitVec.ofNat 16 v) = bytes2 v := by
  have hlow : (BitVec.ofNat 16 v).extractLsb' 0 8 = BitVec.ofNat 8 v := by
    apply BitVec.eq_of_toNat_eq
    simp only [BitVec.extractLsb'_toNat, BitVec.toNat_ofNat, Nat.shiftRight_zero]
    omega
  have hhigh : (BitVec.ofNat 16 v).extractLsb' 8 8 = BitVec.ofNat 8 (v / 256) := by
    apply BitVec.eq_of_toNat_eq
    simp only [BitVec.extractLsb'_toNat, BitVec.toNat_ofNat, Nat.shiftRight_eq_div_pow]
    omega
  rw [halfBytes, hlow, hhigh]

theorem wideBytes_ofInt (v : Int) : wideBytes (BitVec.ofInt 32 v) = bytes4 v := by
  have hbyte : ∀ k : Nat, k = 0 ∨ k = 8 ∨ k = 16 ∨ k = 24 →
      (BitVec.ofInt 32 v).extractLsb' k 8 = BitVec.ofInt 8 (v / 2 ^ k) := fun k hk => by
    apply BitVec.eq_of_toNat_eq
    simp only [BitVec.extractLsb'_toNat, BitVec.toNat_ofInt, Nat.shiftRight_eq_div_pow]
    obtain rfl | rfl | rfl | rfl := hk <;> omega
  rw [wideBytes, hbyte 24 (by decide), hbyte 16 (by decide), hbyte 8 (by decide), hbyte 0 (by decide)]
  simp

theorem wideBytes_ofNat (v : Nat) : wideBytes (BitVec.ofNat 32 v) = bytes4 v := by
  rw [← wideBytes_ofInt, BitVec.ofInt_natCast]

/-- The bits of a byte of marks. -/
theorem bitsByte_getLsbD (bits : List Bool) (i : Nat) (hi : i < 8) : (bitsByte bits).getLsbD i = bits.getD i false := by
  have htest : ∀ (l : List Bool) (i : Nat), (l.foldr (fun (b : Bool) v => b.toNat + 2 * v) 0).testBit i = l.getD i false := by
    intro l
    induction l with
    | nil => intro i; simp
    | cons b l ih =>
      intro i
      cases i with
      | zero => cases b <;> simp [Nat.testBit_zero]
      | succ i =>
        rw [List.foldr_cons, Nat.testBit_succ, List.getD_cons_succ, ← ih]
        congr 1
        cases b with
        | false => simp
        | true => simp; omega
  rw [BitVec.getLsbD_ofNat, htest]
  simp [hi]

/-! ## The records -/

/-- Any draw field reads as its word; absent is FFFFh (0.6). -/
theorem halfBytes_drawWord (d : Option Nat) : halfBytes (drawWord d) = bytes2 (d.getD 0xFFFF) := by
  cases d with
  | none => decide
  | some d => exact halfBytes_ofNat d

theorem Window.isOpen_eq (w : Window) : w.isOpen = decide (w ≠ .closed) := by
  cases w <;> simp [Window.isOpen, Window.opening]

theorem Load.marksByte_eq (r : Load) :
    r.marksByte = bitsByte [r.shed, decide (r.window ≠ .closed), r.waitHold, r.waitMinOn] := by
  rw [Load.marksByte, Window.isOpen_eq]
  generalize r.shed = a, decide (r.window ≠ .closed) = b, r.waitHold = c, r.waitMinOn = d
  revert a b c d
  decide

theorem Load.timerView_eq (r : Load) : r.timerView = r.timerShown := by
  cases hs : r.state with
  | deferred => simp only [Load.timerView, Load.timerShown, hs, Bool.and_eq_true, decide_eq_true_eq]
  | vacant | idle | standby | starting | running | tripped | locked => simp only [Load.timerView, Load.timerShown, hs]

/-- A load record reads as its layout (R183). -/
theorem Load.bytes_eq (r : Load) : r.bytes = r.layout := by
  have hstate : loadStateCode r.state = (match r.state with
      | .vacant => 0x00 | .idle => 0x01 | .standby => 0x02 | .starting => 0x03
      | .running => 0x04 | .deferred => 0x05 | .tripped => 0x06 | .locked => 0x07) := by
    cases r.state <;> rfl
  have hline : holdLineCode r.holdLine = (match r.holdLine with
      | none => 0x00
      | some h => BitVec.ofNat 8 (1 + h.val)) := by
    cases r.holdLine with
    | none => rfl
    | some h => rw [holdLineCode, Nat.add_comm]
  have henrolled : flagCode r.enrolled = if r.state = .vacant then 0x00 else 0x01 := by
    by_cases h : r.state = .vacant <;> simp [flagCode, Load.enrolled, h]
  have hreason : reasonCode r.reason = (match r.reason with
      | .none => 0x00
      | .standby .forced => 0x01 | .standby .minOff => 0x02 | .standby .heldBack => 0x03
      | .standby .budget => 0x04 | .standby .queued => 0x05
      | .deferred .budget => 0x11 | .deferred .requestOff => 0x12) := by
    rcases r.reason with _ | why | cause
    · rfl
    · cases why <;> rfl
    · cases cause <;> rfl
  rw [Load.bytes, hstate, hline, henrolled, hreason, r.marksByte_eq, r.timerView_eq, halfBytes_drawWord]
  simp only [halfBytes_ofNat]
  rfl

/-- The bits of the switch levels (R185). -/
theorem State.switchWord_getLsbD (s : State) (i : Nat) (hi : i < 16) :
    s.switchWord.getLsbD i = if h : i < 12 then s.switches[i].pressed else false := by
  have hfold : ∀ (l : List Channel) (w : Half), (l.foldl (fun w n => if s.switches[n].pressed then w ||| (1#16 <<< n.val) else w)
      w).getLsbD i = (w.getLsbD i || l.any fun n => s.switches[n].pressed && n.val == i) := by
    intro l
    induction l with
    | nil => intro w; simp
    | cons n l ih =>
      intro w
      rw [List.foldl_cons, ih, List.any_cons]
      cases hp : s.switches[n].pressed with
      | false => simp
      | true =>
        have hbit : (1#16 <<< n.val).getLsbD i = (n.val == i) := by
          simp only [BitVec.getLsbD_shiftLeft, BitVec.getLsbD_one]
          grind
        rw [if_pos rfl, BitVec.getLsbD_or, hbit, Bool.true_and, Bool.or_assoc]
  rw [State.switchWord, hfold]
  simp only [BitVec.ofNat_eq_ofNat, BitVec.getLsbD_zero, Bool.false_or]
  by_cases h : i < 12
  · rw [dif_pos h, Bool.eq_iff_iff, List.any_eq_true]
    simp only [Bool.and_eq_true, beq_iff_eq, mem_channels, true_and]
    exact ⟨fun ⟨n, hp, hn⟩ => by subst hn; exact hp, fun hp => ⟨⟨i, h⟩, hp, rfl⟩⟩
  · rw [dif_neg h, List.any_eq_false]
    intro n _
    have hn := n.isLt
    simp only [Bool.and_eq_true, beq_iff_eq, not_and]
    omega

theorem State.switchWord_bytes (s : State) : halfBytes s.switchWord =
    [bitsByte ([8, 9, 10, 11].map fun n : Channel => s.switches[n].pressed),
      bitsByte ([0, 1, 2, 3, 4, 5, 6, 7].map fun n : Channel => s.switches[n].pressed)] := by
  have hhigh : s.switchWord.extractLsb' 8 8 = bitsByte ([8, 9, 10, 11].map fun n : Channel => s.switches[n].pressed) := by
    apply BitVec.eq_of_getLsbD_eq
    intro i hi
    rw [BitVec.getLsbD_extractLsb', bitsByte_getLsbD _ i hi, s.switchWord_getLsbD _ (by omega)]
    interval_cases i <;> rfl
  have hlow : s.switchWord.extractLsb' 0 8
      = bitsByte ([0, 1, 2, 3, 4, 5, 6, 7].map fun n : Channel => s.switches[n].pressed) := by
    apply BitVec.eq_of_getLsbD_eq
    intro i hi
    rw [BitVec.getLsbD_extractLsb', bitsByte_getLsbD _ i hi, s.switchWord_getLsbD _ (by omega)]
    interval_cases i <;> rfl
  rw [halfBytes, hhigh, hlow]

theorem State.linesByte_eq (s : State) : s.linesByte = bitsByte [s.setup.level, s.forceOff.level, s.holds[0].level,
    s.holds[1].level, s.holds[2].level, s.holds[3].level] := by
  unfold State.linesByte
  generalize s.setup.level = a, s.forceOff.level = b, s.holds[0].level = c, s.holds[1].level = d, s.holds[2].level = e,
    s.holds[3].level = f
  revert a b c d e f
  decide

theorem State.startUpByte_eq (s : State) :
    s.startUpByte = bitsByte [s.startup.ready, decide (s.store.saving ≠ none), s.store.restartPending] := by
  have hsaving : s.store.saving.isSome = decide (s.store.saving ≠ none) := by cases s.store.saving <;> simp
  rw [State.startUpByte, hsaving]
  generalize s.startup.ready = a, decide (s.store.saving ≠ none) = b, s.store.restartPending = c
  revert a b c
  decide

theorem State.marksByte_eq (s : State) : s.marksByte = bitsByte [s.port.partialMark, s.port.refusedMark] := by
  unfold State.marksByte
  generalize s.port.partialMark = a, s.port.refusedMark = b
  revert a b
  decide

/-- STATUS reads as its layout (R177, R185). -/
theorem State.statusBytes_eq (s : State) : s.statusBytes = s.statusLayout := by
  have hlevel : levelCode s.engine.level = (match s.engine.level with
      | .ample => 0x00 | .tight => 0x01 | .shedding => 0x02 | .depleted => 0x03) := by
    cases s.engine.level <;> rfl
  rw [State.statusBytes, hlevel, s.startUpByte_eq, s.marksByte_eq, s.linesByte_eq, s.switchWord_bytes]
  cases hq : s.reserve.q with
  | none =>
    simp only [State.fraction, State.statusLayout, hq, Option.map_none, Option.getD_none, halfBytes_ofNat, wideBytes_ofNat,
      wideBytes_ofInt]
    rfl
  | some q =>
    simp only [State.fraction, State.statusLayout, hq, Option.map_some, Option.getD_some, halfBytes_ofNat, wideBytes_ofNat,
      wideBytes_ofInt]
    rfl

theorem listBytes_eq {l : List Channel} (h : l.length ≤ 12) : listBytes l = listLayout l := by
  unfold listBytes listLayout
  congr 1
  apply List.ext_getElem
  · simp
    omega
  · intro i hi hi'
    simp only [List.getElem_ofFn, List.getElem_append, List.length_map, List.getElem_map, List.getElem_replicate]
    by_cases hl : i < l.length
    · simp [hl]
    · simp [hl]

theorem State.profileBytes_eq (s : State) (i : Nat) : s.profileBytes i = s.profileLayout i := by
  unfold State.profileBytes State.profileLayout
  split
  · simp only [meterBytes, meterWords, halfBytes_ofNat]
    rfl
  · simp only [budgetBytes, budgetWords, halfBytes_ofNat]
    rfl
  · simp only [pointBytes, pointWords, halfBytes_ofNat, List.flatMap]
    congr 1
    apply List.ext_getElem
    · simp
    · intro j hj hj'
      simp only [List.getElem_map, List.getElem_ofFn, Vector.getElem_toList]
      rfl

/-- Every record reads as its layout (R168). -/
theorem State.recordBytes_eq {s : State} (hl : s.listLaw) {space : Space} {index : Nat} (hi : index < space.records) :
    s.recordBytes space index = s.layout space index := by
  obtain ⟨-, -, hrun, hstandby⟩ := hl
  cases space with
  | load =>
    have hi : index < 12 := hi
    show (s.loads[index]?.getD {}).bytes = if h : index < 12 then (s.load ⟨index, h⟩).layout else []
    rw [dif_pos hi, ← Load.bytes_eq]
    simp [hi, State.load]
  | profile => exact s.profileBytes_eq index
  | status => exact s.statusBytes_eq
  | command => rfl
  | lists =>
    refine listBytes_eq ?_
    split
    · exact channels_length_le hrun
    · exact channels_length_le hstandby

/-! ## Reads (R170, R173, R174) -/

/-- The record that a read sends: the snapshot, which a read at offset 0 takes. -/
def State.recordAt (s : State) : List Byte :=
  if s.port.offset = 0 then s.recordBytes s.port.space s.port.index else s.port.snapshot.getD []

/-- The port after a read of some bytes of this record, at its end at most. -/
def Port.readOn (record : List Byte) (count : Nat) (p : Port) : Port :=
  { p with
    sent := p.sent ++ (record.drop p.offset).take count
    snapshot := if p.offset + count = p.space.bytes then none else some record
    offset := if p.offset + count = p.space.bytes then 0 else p.offset + count
    index := if p.offset + count = p.space.bytes then nextIndex p.space p.index else p.index
    partialMark := p.partialMark && !(p.offset == 0 && p.space == .status)
    refusedMark := p.refusedMark && !(p.offset == 0 && p.space == .status) }

section
variable {s : State}

/-- A byte read (R173). -/
theorem State.readByte_on (ho : s.port.offset < s.port.space.bytes) (hr : s.recordAt.length = s.port.space.bytes)
    (hs : s.port.offset ≠ 0 → s.port.snapshot.isSome = true) :
    s.readByte = { s with port := s.port.readOn s.recordAt 1 } := by
  have htake : (s.recordAt.drop s.port.offset).take 1 = [s.recordAt.getD s.port.offset 0] := by
    rw [List.take_one_drop_eq_of_lt_length (by omega)]
    simp [hr, ho]
  have hrecord : s.takeSnapshot.port = { s.port with
      snapshot := some s.recordAt
      partialMark := s.port.partialMark && !(s.port.offset == 0 && s.port.space == .status)
      refusedMark := s.port.refusedMark && !(s.port.offset == 0 && s.port.space == .status) } := by
    unfold State.takeSnapshot State.recordAt
    by_cases h0 : s.port.offset = 0
    · rw [if_pos h0, if_pos h0, h0]
      simp only [beq_self_eq_true, Bool.true_and, bne]
    · obtain ⟨l, hl⟩ := Option.isSome_iff_exists.mp (hs h0)
      have hbeq : (s.port.offset == 0) = false := by simpa using h0
      rw [if_neg h0, if_neg h0, hl, hbeq]
      simp only [Bool.false_and, Bool.not_false, Bool.and_true, Option.getD_some]
      rw [← hl]
  rw [State.readByte_eq]
  congr 1
  simp only [State.readByte, hrecord, Port.readOn, htake, Option.getD_some]
  unfold Port.advance
  by_cases hend : s.port.offset + 1 = s.port.space.bytes
  · rw [if_neg (show ¬s.port.offset + 1 < s.port.space.bytes by omega), if_pos hend, if_pos hend, if_pos hend]
  · rw [if_pos (show s.port.offset + 1 < s.port.space.bytes by omega), if_neg hend, if_neg hend, if_neg hend]

/-- A read within the record at the pointer (R170, R173). -/
theorem State.readBytes_on {count : Nat} (hc : 0 < count) (ho : s.port.offset + count ≤ s.port.space.bytes)
    (hr : s.recordAt.length = s.port.space.bytes) (hs : s.port.offset ≠ 0 → s.port.snapshot.isSome = true) :
    s.readBytes count = { s with port := s.port.readOn s.recordAt count } := by
  induction count generalizing s with
  | zero => cases hc
  | succ k ih =>
    have hbyte := State.readByte_on (s := s) (by omega) hr hs
    rw [State.readBytes, hbyte]
    by_cases hk : k = 0
    · rw [hk]
      rfl
    · have hmore : s.port.offset + 1 ≠ s.port.space.bytes := by omega
      have hport : s.port.readOn s.recordAt 1 = { s.port with
          sent := s.port.sent ++ (s.recordAt.drop s.port.offset).take 1
          snapshot := some s.recordAt
          offset := s.port.offset + 1
          partialMark := s.port.partialMark && !(s.port.offset == 0 && s.port.space == .status)
          refusedMark := s.port.refusedMark && !(s.port.offset == 0 && s.port.space == .status) } := by
        rw [Port.readOn, if_neg hmore, if_neg hmore, if_neg hmore]
      have hat : State.recordAt { s with port := s.port.readOn s.recordAt 1 } = s.recordAt := by
        rw [hport]
        exact if_neg (Nat.succ_ne_zero _)
      have hoffset : (s.port.readOn s.recordAt 1).offset = s.port.offset + 1 := by rw [hport]
      have hspace : (s.port.readOn s.recordAt 1).space = s.port.space := rfl
      rw [ih (s := { s with port := s.port.readOn s.recordAt 1 }) (by omega)
        (by rw [hoffset, hspace]; omega) (by rw [hat, hspace]; exact hr) (fun _ => by rw [hport]; rfl), hat]
      congr 1
      rw [hport]
      have hsent : (s.recordAt.drop s.port.offset).take (k + 1)
          = (s.recordAt.drop s.port.offset).take 1 ++ (s.recordAt.drop (s.port.offset + 1)).take k := by
        rw [Nat.add_comm k 1, List.take_add, List.drop_drop]
      have hlater : (s.port.offset + 1 == 0) = false := by simp
      simp only [Port.readOn, hsent, hlater, Bool.false_and, Bool.not_false, Bool.and_true, List.append_assoc,
        Nat.add_right_comm s.port.offset 1 k, ← Nat.add_assoc s.port.offset k 1]

/-- The part with these bytes sent before. -/
def State.withSent (l : List Byte) (s : State) : State := { s with port := { s.port with sent := l ++ s.port.sent } }

/-- The byte at the offset of the snapshot is sent. -/
def State.byteSent (t : State) : State :=
  { t with port :=
    ({ t.port with sent := t.port.sent ++ [(t.port.snapshot.getD []).getD t.port.offset 0] } : Port).advance }

theorem State.readByte_eq_sent (s : State) : s.readByte = s.takeSnapshot.byteSent := rfl

theorem State.readByte_withSent (l : List Byte) (s : State) : (s.withSent l).readByte = s.readByte.withSent l := by
  have htake : (s.withSent l).takeSnapshot = s.takeSnapshot.withSent l := by
    unfold State.takeSnapshot
    split <;> rename_i h
    · rw [if_pos (c := s.port.offset = 0) h]
      rfl
    · rw [if_neg (c := s.port.offset = 0) h]
  have hsent : ∀ t : State, (t.withSent l).byteSent = t.byteSent.withSent l := fun t => by
    simp only [State.byteSent, State.withSent, Port.advance, List.append_assoc]
    split <;> rfl
  rw [State.readByte_eq_sent, State.readByte_eq_sent, htake, hsent]

theorem State.readBytes_withSent (l : List Byte) (count : Nat) (s : State) :
    (s.withSent l).readBytes count = (s.readBytes count).withSent l := by
  induction count generalizing s with
  | zero => rfl
  | succ k ih => rw [State.readBytes, s.readByte_withSent, ih, State.readBytes]

theorem State.readBytes_add (i j : Nat) (s : State) : s.readBytes (i + j) = (s.readBytes i).readBytes j := by
  induction i generalizing s with
  | zero => rw [Nat.zero_add]; rfl
  | succ i ih => rw [Nat.succ_add, State.readBytes, ih, State.readBytes]

/-- The part where a read transaction begins (R174). -/
def State.readFrom (s : State) : State := { s with port := { s.port with mask := none, sent := [] } }

theorem exec_readTransaction (hp : s.powered = true) (hr : s.startup.ready = true) (address : BitVec 7) (count : Nat) :
    exec (.readTransaction address count) s
      = .next (if address = s.port.address then s.readFrom.readBytes count else s) := whenAnswering_of hp hr _

end

/-- Settles O48: the bytes of the snapshot, byte by byte, and the layouts of the records. -/
theorem readsSendTheSnapshot : Obligations.ReadsSendTheSnapshot := by
  intro s hp hr hpointer hl
  obtain ⟨hindex, hoffset, hheld, hlength, -⟩ := hpointer
  have hlayout : s.recordBytes s.port.space s.port.index = s.layout s.port.space s.port.index :=
    State.recordBytes_eq hl hindex
  have hat : s.readFrom.recordAt
      = if s.port.offset = 0 then s.layout s.port.space s.port.index else s.port.snapshot.getD [] := by
    rw [← hlayout]
    rfl
  have hsome : s.port.offset ≠ 0 → s.port.snapshot.isSome = true := fun h => by rw [hheld]; simpa using h
  have hsize : s.readFrom.recordAt.length = s.port.space.bytes := by
    rw [hat]
    split
    · rw [← hlayout]
      exact s.recordBytes_length hl _ _
    case isFalse h =>
      obtain ⟨l, hsnapshot⟩ := Option.isSome_iff_exists.mp (hsome h)
      rw [hsnapshot]
      exact hlength l hsnapshot
  have hwithin : ∀ count : Nat, 0 < count → s.port.offset + count ≤ s.port.space.bytes →
      s.readFrom.readBytes count = { s with port := s.readFrom.port.readOn s.readFrom.recordAt count } :=
    fun count hc ho => State.readBytes_on (s := s.readFrom) hc ho hsize hsome
  refine ⟨fun address count hne => ?_, ?_, ?_, fun rest => ?_, ?_⟩
  · rw [exec_readTransaction hp hr, if_neg hne]
  · rw [exec_readTransaction hp hr, if_pos rfl]
    rfl
  · intro count hc ho record through clears
    rw [exec_readTransaction hp hr, if_pos rfl, hwithin count hc ho, hat]
    have hmark : ∀ b : Bool, (b && !(s.port.offset == 0 && s.port.space == .status)) = if clears then false else b := fun b => by
      by_cases hclears : clears
      · rw [if_pos hclears]
        obtain ⟨h0, hspace⟩ := hclears
        simp [h0, hspace]
      · rw [if_neg hclears]
        have hboth : (s.port.offset == 0 && s.port.space == .status) = false := by
          rw [← Bool.not_eq_true, Bool.and_eq_true, beq_iff_eq, beq_iff_eq]
          exact hclears
        rw [hboth, Bool.not_false, Bool.and_true]
    rw [← hmark, ← hmark]
    rfl
  · have hpast : 0 < s.port.space.bytes - s.port.offset := by omega
    have hread := hwithin _ hpast (by omega)
    obtain ⟨u, hu⟩ : ∃ u, u = s.readFrom.readBytes (s.port.space.bytes - s.port.offset) := ⟨_, rfl⟩
    rw [← hu] at hread
    have haddress : u.port.address = s.port.address := by rw [hread]; rfl
    have hmask : u.port.mask = none := by rw [hread]; rfl
    have hpowered : u.powered = true := by rw [hread]; exact hp
    have hready : u.startup.ready = true := by rw [hread]; exact hr
    refine ⟨u, u.readFrom.readBytes rest, ?_, ?_, ?_⟩
    · rw [exec_readTransaction hp hr, if_pos rfl, hu]
    · rw [exec_readTransaction hpowered hready, if_pos haddress.symm]
    · have hfrom : u = u.readFrom.withSent u.port.sent := by
        rw [State.readFrom, State.withSent, ← hmask, List.append_nil]
      rw [exec_readTransaction hp hr, if_pos rfl, State.readBytes_add, ← hu]
      congr 1
      conv_lhs => rw [hfrom]
      rw [State.readBytes_withSent]
      rfl
  · refine (whenAnswering_of hp hr _).trans (congrArg _ ?_)
    have hstatus : State.recordAt { s with port := { s.port.pointAt .status 0 with sent := [] } } = s.statusLayout :=
      s.statusBytes_eq
    have hlong : s.statusLayout.length = 40 := by
      rw [← s.statusBytes_eq]
      exact s.statusBytes_length
    have hread := State.readByte_on (s := { s with port := { s.port.pointAt .status 0 with sent := [] } })
      (show (0 : Nat) < 40 by decide) (by rw [hstatus, hlong]; rfl) fun h => absurd rfl h
    rw [hstatus] at hread
    refine hread.trans ?_
    generalize s.statusLayout = l
    simp only [Port.readOn, Port.pointAt, List.drop_zero, List.nil_append]
    rw [beq_self_eq_true, beq_self_eq_true, Bool.and_self, Bool.not_true, Bool.and_false, Bool.and_false]
    rfl

end Sys2Proof.Machine
end

section
/-! PROOFS. The stored image: what makes it good (R188, R194), and the save image (R190). -/

namespace Sys2Proof.Machine

/-! ## Content and checksum (R188) -/

theorem sum_halfBytes (h : Half) : ((halfBytes h).map BitVec.toNat).sum = halfSum h := by
  have hlt := h.isLt
  simp only [halfBytes, List.map_cons, List.map_nil, List.sum_cons, List.sum_nil, BitVec.extractLsb'_toNat,
    Nat.shiftRight_eq_div_pow, halfSum]
  omega

/-- The sum over the bytes of the elements of a vector. -/
theorem sum_flatMap_toList {α : Type} {size : Nat} (v : Vector α size) (bytes : α → List Byte) :
    ((v.toList.flatMap bytes).map BitVec.toNat).sum = (List.ofFn fun i : Fin size => ((bytes v[i]).map BitVec.toNat).sum).sum := by
  have hlist : v.toList = List.ofFn fun i : Fin size => v[i] := by
    apply List.ext_getElem
    · simp
    · intro i hi hi'
      simp
  have hsum : ∀ l : List α, ((l.flatMap bytes).map BitVec.toNat).sum = (l.map fun a => ((bytes a).map BitVec.toNat).sum).sum := by
    intro l
    induction l with
    | nil => rfl
    | cons a l ih => rw [List.flatMap_cons, List.map_append, List.sum_append, ih, List.map_cons, List.sum_cons]
  rw [hsum, hlist, List.map_ofFn]
  rfl

theorem sum_meterBytes (w : MeterWords) : ((meterBytes w).map BitVec.toNat).sum =
    halfSum w.capacity + halfSum w.pulseWeight + halfSum w.efficiency + halfSum w.resistance + halfSum w.quietTime
    + w.filterShift.toNat + w.restTime.toNat + halfSum w.restCurrent + halfSum w.restTolerance + halfSum w.fullVoltage
    + halfSum w.tailCurrent + w.fullTime.toNat := by
  simp only [meterBytes, List.map_append, List.sum_append, sum_halfBytes, List.map_cons, List.map_nil, List.sum_cons,
    List.sum_nil, Nat.add_zero, ← Nat.add_assoc]

theorem add_sum_budgetBytes (k : Nat) (w : BudgetWords) : k + ((budgetBytes w).map BitVec.toNat).sum =
    k + halfSum w.vOk + halfSum w.vCut + halfSum w.fFull + halfSum w.fFloor + halfSum w.aMax + halfSum w.margin
    + w.spacing.toNat + w.cutHoldOff.toNat + w.debounce.toNat := by
  simp only [budgetBytes, List.map_append, List.sum_append, sum_halfBytes, List.map_cons, List.map_nil, List.sum_cons,
    List.sum_nil, Nat.add_zero, ← Nat.add_assoc]

theorem sum_pointBytes (w : PointWords) :
    ((pointBytes w).map BitVec.toNat).sum = halfSum w.voltage + halfSum w.fraction := by
  rw [pointBytes, List.map_append, List.sum_append, sum_halfBytes, sum_halfBytes]

theorem sum_channelBytes (c : ChannelWords) : ((channelBytes c).map BitVec.toNat).sum =
    c.enrolled.toNat + c.cls.toNat + halfSum c.declaredDraw + halfSum c.learnedDraw + c.settleTime.toNat
    + c.switchMode.toNat + c.holdLine.toNat + halfSum c.minOn + halfSum c.minOff + halfSum c.holdLimit
    + c.retryLimit.toNat + c.retryBase.toNat + c.restartPolicy.toNat := by
  simp only [channelBytes, List.map_append, List.sum_append, sum_halfBytes, List.map_cons, List.map_nil, List.sum_cons,
    List.sum_nil]
  omega

theorem contentSum_eq (w : StoreWords) : contentSum w = w.byteSum := by
  rw [contentSum, imageContent, List.map_append, List.map_append, List.map_append, List.sum_append, List.sum_append,
    List.sum_append, sum_meterBytes, add_sum_budgetBytes, sum_flatMap_toList, sum_flatMap_toList]
  simp only [sum_pointBytes, sum_channelBytes]

theorem passesChecksum_iff (w : StoreWords) : passesChecksum w = true ↔ (w.byteSum + w.checksum.toNat) % 65536 = 0 := by
  rw [passesChecksum, beq_iff_eq, contentSum_eq]

theorem contentSum_sealImage (w : StoreWords) : contentSum (sealImage w) = contentSum w := by
  rw [contentSum, contentSum, imageContent, imageContent, sealImage]

/-- A sealed image passes its checksum test (R188). -/
theorem passesChecksum_sealImage (w : StoreWords) : passesChecksum (sealImage w) = true := by
  rw [passesChecksum, beq_iff_eq, contentSum_sealImage]
  simp only [sealImage, checksumOf, BitVec.toNat_neg, BitVec.toNat_ofNat]
  omega

/-! ## Ranges (R4, R41, R59, R60, R69, R183) -/

theorem ofNat16_clampTo {lo hi : Nat} (h : Half) (hlo : lo ≤ hi) (hhi : hi ≤ 65535) :
    BitVec.ofNat 16 (clampTo lo hi h.toNat) = h ↔ lo ≤ h.toNat ∧ h.toNat ≤ hi := by
  rw [← BitVec.toNat_inj, toNat_ofNat16 (by unfold clampTo; omega)]
  unfold clampTo
  omega

theorem ofNat8_clampTo {lo hi : Nat} (b : Byte) (hlo : lo ≤ hi) (hhi : hi ≤ 255) :
    BitVec.ofNat 8 (clampTo lo hi b.toNat) = b ↔ lo ≤ b.toNat ∧ b.toNat ≤ hi := by
  rw [← BitVec.toNat_inj, toNat_ofNat8 (by unfold clampTo; omega)]
  unfold clampTo
  omega

theorem ofNat16_min {hi : Nat} (h : Half) (hhi : hi ≤ 65535) : BitVec.ofNat 16 (min h.toNat hi) = h ↔ h.toNat ≤ hi := by
  rw [← BitVec.toNat_inj, toNat_ofNat16 (by omega)]
  omega

theorem ofNat8_min {hi : Nat} (b : Byte) (hhi : hi ≤ 255) : BitVec.ofNat 8 (min b.toNat hi) = b ↔ b.toNat ≤ hi := by
  rw [← BitVec.toNat_inj, toNat_ofNat8 (by omega)]
  omega

theorem ofNat16_max {lo : Nat} (h : Half) (hlo : lo ≤ 65535) : BitVec.ofNat 16 (max lo h.toNat) = h ↔ lo ≤ h.toNat := by
  have hlt := h.isLt
  rw [← BitVec.toNat_inj, toNat_ofNat16 (by omega)]
  omega

theorem meterGood_iff (w : MeterWords) : meterGood w = true ↔ (1 ≤ w.capacity.toNat ∧ w.capacity.toNat ≤ 1000)
    ∧ (100 ≤ w.pulseWeight.toNat ∧ w.pulseWeight.toNat ≤ 60000)
    ∧ (800 ≤ w.efficiency.toNat ∧ w.efficiency.toNat ≤ 1000) ∧ w.resistance.toNat ≤ 1000
    ∧ (1 ≤ w.quietTime.toNat ∧ w.quietTime.toNat ≤ 1500) ∧ w.filterShift.toNat ≤ 7
    ∧ (1 ≤ w.restTime.toNat ∧ w.restTime.toNat ≤ 240) ∧ w.restTolerance.toNat ≤ 1000
    ∧ w.fullVoltage.toNat ≤ 32767 ∧ (1 ≤ w.fullTime.toNat ∧ w.fullTime.toNat ≤ 60) := by
  obtain ⟨capacity, pulseWeight, efficiency, resistance, quietTime, filterShift, restTime, restCurrent, restTolerance,
    fullVoltage, tailCurrent, fullTime⟩ := w
  rw [meterGood, beq_iff_eq, meterWords, MeterWords.mk.injEq]
  simp only [meterOfWords]
  rw [ofNat16_clampTo (lo := 1) (hi := 1000) _ (by decide) (by decide),
    ofNat16_clampTo (lo := 100) (hi := 60000) _ (by decide) (by decide),
    ofNat16_clampTo (lo := 800) (hi := 1000) _ (by decide) (by decide), ofNat16_min (hi := 1000) _ (by decide),
    ofNat16_clampTo (lo := 1) (hi := 1500) _ (by decide) (by decide), ofNat8_min (hi := 7) _ (by decide),
    ofNat8_clampTo (lo := 1) (hi := 240) _ (by decide) (by decide), ofNat16_min (hi := 1000) _ (by decide),
    ofNat16_min (hi := 32767) _ (by decide), ofNat8_clampTo (lo := 1) (hi := 60) _ (by decide) (by decide)]
  simp only [BitVec.ofNat_toNat, BitVec.setWidth_eq, true_and]

theorem budgetGood_iff (w : BudgetWords) : budgetGood w = true ↔ w.vOk.toNat ≤ 32767 ∧ w.vCut.toNat ≤ 32767
    ∧ w.fFull.toNat ≤ 1000 ∧ w.fFloor.toNat ≤ 1000 ∧ 1 ≤ w.aMax.toNat
    ∧ (1 ≤ w.spacing.toNat ∧ w.spacing.toNat ≤ 60) ∧ (1 ≤ w.cutHoldOff.toNat ∧ w.cutHoldOff.toNat ≤ 60)
    ∧ (10 ≤ w.debounce.toNat ∧ w.debounce.toNat ≤ 250)
    ∧ w.fFloor.toNat < w.fFull.toNat ∧ w.vCut.toNat < w.vOk.toNat := by
  obtain ⟨vOk, vCut, fFull, fFloor, aMax, margin, spacing, cutHoldOff, debounce⟩ := w
  rw [budgetGood, Bool.and_eq_true, Bool.and_eq_true, beq_iff_eq, budgetWords, BudgetWords.mk.injEq, decide_eq_true_eq,
    decide_eq_true_eq, BitVec.lt_def, BitVec.lt_def]
  simp only [budgetOfWords]
  rw [ofNat16_min (hi := 32767) _ (by decide), ofNat16_min (hi := 32767) _ (by decide),
    ofNat16_min (hi := 1000) _ (by decide), ofNat16_min (hi := 1000) _ (by decide), ofNat16_max (lo := 1) _ (by decide),
    ofNat8_clampTo (lo := 1) (hi := 60) _ (by decide) (by decide),
    ofNat8_clampTo (lo := 1) (hi := 60) _ (by decide) (by decide),
    ofNat8_clampTo (lo := 10) (hi := 250) _ (by decide) (by decide)]
  simp only [BitVec.ofNat_toNat, BitVec.setWidth_eq, true_and, and_assoc]

theorem pointGood_iff (p : PointWords) :
    (pointWords (pointOfWords p) == p) = true ↔ p.voltage.toNat ≤ 32767 ∧ p.fraction.toNat ≤ 1000 := by
  obtain ⟨voltage, fraction⟩ := p
  rw [beq_iff_eq, pointWords, PointWords.mk.injEq]
  exact and_congr (ofNat16_min (hi := 32767) _ (by decide)) (ofNat16_min (hi := 1000) _ (by decide))

/-- A test of every element of a vector. -/
theorem all_toList_iff {α : Type} {size : Nat} (v : Vector α size) (test : α → Bool) :
    v.toList.all test = true ↔ ∀ i : Fin size, test v[i] = true := by
  rw [List.all_eq_true]
  constructor
  · exact fun h i => h _ (Vector.mem_toList_iff.mpr (Vector.getElem_mem i.isLt))
  · intro h a ha
    obtain ⟨i, hi, rfl⟩ := Vector.getElem_of_mem (Vector.mem_toList_iff.mp ha)
    exact h ⟨i, hi⟩

theorem restOfWords_get (w : Vector PointWords 8) (i : Fin 8) : (restOfWords w)[i] = pointOfWords w[i] := by
  simp [restOfWords]

/-- A point in its ranges is held as it is stored (R60). -/
theorem pointOfWords_of {p : PointWords} (hv : p.voltage.toNat ≤ 32767) (hf : p.fraction.toNat ≤ 1000) :
    pointOfWords p = ⟨p.voltage.toNat, p.fraction.toNat⟩ := by
  rw [pointOfWords, min_eq_left hv, min_eq_left hf]

theorem restGood_iff (w : Vector PointWords 8) : restGood w = true ↔
    (∀ i : Fin 8, w[i].voltage.toNat ≤ 32767 ∧ w[i].fraction.toNat ≤ 1000)
    ∧ ∀ i : Fin 7, w[i.castSucc].voltage.toNat < w[i.succ].voltage.toNat
      ∧ w[i.castSucc].fraction.toNat ≤ w[i.succ].fraction.toNat := by
  rw [restGood, Bool.and_eq_true, all_toList_iff, restOrdered_iff]
  simp only [pointGood_iff]
  refine and_congr_right fun hrange => forall_congr' fun i => ?_
  obtain ⟨hlow, hlow'⟩ := hrange i.castSucc
  obtain ⟨hhigh, hhigh'⟩ := hrange i.succ
  rw [restOfWords_get, restOfWords_get, pointOfWords_of hlow hlow', pointOfWords_of hhigh hhigh']

theorem flagOfCode_isSome (b : Byte) : (flagOfCode b).isSome = true ↔ b.toNat ≤ 1 := by revert b; decide

theorem switchModeOfCode_isSome (b : Byte) : (switchModeOfCode b).isSome = true ↔ b.toNat ≤ 3 := by revert b; decide

theorem holdLineOfCode_isSome (b : Byte) : (holdLineOfCode b).isSome = true ↔ b.toNat ≤ 4 := by revert b; decide

theorem restartPolicyOfCode_isSome (b : Byte) : (restartPolicyOfCode b).isSome = true ↔ b.toNat ≤ 1 := by revert b; decide

theorem clampTo_eq_iff {lo hi v : Nat} (h : lo ≤ hi) : clampTo lo hi v = v ↔ lo ≤ v ∧ v ≤ hi := by
  unfold clampTo
  omega

theorem channelGood_iff (c : ChannelWords) : channelGood c = true ↔ c.good := by
  have hdraw : c.learnedDraw ≠ 0 ↔ c.learnedDraw.toNat ≠ 0 := by
    rw [Ne, ← BitVec.toNat_inj]
    rfl
  simp only [channelGood, Bool.and_eq_true, flagOfCode_isSome, switchModeOfCode_isSome, holdLineOfCode_isSome,
    restartPolicyOfCode_isSome, beq_iff_eq, bne_iff_ne, hdraw, clampClass, clampDeclared, clampSettle, clampMinTime,
    clampHoldLimit, clampRetryLimit, clampRetryBase, min_eq_left_iff, max_eq_right_iff, and_assoc, ChannelWords.good,
    clampTo_eq_iff (show 1 ≤ 65534 by decide), clampTo_eq_iff (show 1 ≤ 60 by decide),
    clampTo_eq_iff (show 1 ≤ 3600 by decide)]

/-- The model's checks are those of R194. -/
theorem imageGood_iff (w : StoreWords) : imageGood w = true ↔ w.good := by
  rw [imageGood, Bool.and_eq_true, Bool.and_eq_true, Bool.and_eq_true, Bool.and_eq_true, passesChecksum_iff, meterGood_iff,
    budgetGood_iff, restGood_iff, all_toList_iff]
  simp only [channelGood_iff, and_assoc, StoreWords.good]

end Sys2Proof.Machine
end

section
/-! PROOFS. The save image (R190), the loss of power (R191) and stage 2 of start-up (R194). -/

namespace Sys2Proof.Machine

/-! ## The save image (R188, R190) -/

theorem switchModeCode_toNat (m : SwitchMode) : (switchModeCode m).toNat ≤ 3 := by cases m <;> decide

theorem holdLineCode_toNat (h : Option HoldLine) : (holdLineCode h).toNat ≤ 4 := by revert h; decide

theorem restartPolicyCode_toNat (p : RestartPolicy) : (restartPolicyCode p).toNat ≤ 1 := by cases p <;> decide

theorem flagCode_toNat (b : Bool) : (flagCode b).toNat ≤ 1 := by cases b <;> decide

theorem drawWord_toNat {draw : Option Nat} (h : ∀ d ∈ draw, 1 ≤ d ∧ d ≤ 65534) : (drawWord draw).toNat ≠ 0 := by
  cases draw with
  | none => decide
  | some d =>
    obtain ⟨hlow, hhigh⟩ := h d rfl
    rw [drawWord, toNat_ofNat16 (by omega)]
    omega

/-- The thirteen fields of a channel as the save image holds them (R188). -/
theorem channelWords_eq (r : Load) : channelWords r = r.stored := by
  have henrolled : flagCode (r.state != .vacant) = r.stored.enrolled := by
    by_cases hv : r.state = .vacant
    · exact (congrArg flagCode (show (r.state != .vacant) = false by simp [hv])).trans (if_pos hv).symm
    · exact (congrArg flagCode (bne_iff_ne.mpr hv)).trans (if_neg hv).symm
  have hdraw : drawWord r.learnedDraw = r.stored.learnedDraw := by
    cases h : r.learnedDraw <;> simp only [h, drawWord]
  have hmode : switchModeCode r.switchMode = r.stored.switchMode := by
    cases h : r.switchMode <;> simp only [h, switchModeCode]
  have hline : holdLineCode r.holdLine = r.stored.holdLine := by
    cases h : r.holdLine with
    | none => simp only [h, holdLineCode]
    | some line => simp only [h, holdLineCode, Nat.add_comm]
  have hpolicy : restartPolicyCode r.restartPolicy = r.stored.restartPolicy := by
    cases h : r.restartPolicy <;> simp only [h, restartPolicyCode]
  rw [channelWords, henrolled, hdraw, hmode, hline, hpolicy]

theorem channelWords_good {r : Load} (hr : r.inRange) : (channelWords r).good := by
  obtain ⟨hc, ⟨hd, hd'⟩, hl, ⟨hs, hs'⟩, hon, hoff, ⟨hh, hh'⟩, hlimit, ⟨hb, hb'⟩, -⟩ := hr
  refine ⟨flagCode_toNat _, ?_, ?_, drawWord_toNat hl, ?_, switchModeCode_toNat _, holdLineCode_toNat _, ?_, ?_, ?_, ?_, ?_,
    restartPolicyCode_toNat _⟩ <;> simp only [channelWords]
  · rwa [toNat_ofNat8 (by omega)]
  · rw [toNat_ofNat16 (by omega)]
    exact ⟨hd, hd'⟩
  · rw [toNat_ofNat8 (by omega)]
    exact ⟨hs, hs'⟩
  · rwa [toNat_ofNat16 (by omega)]
  · rwa [toNat_ofNat16 (by omega)]
  · rw [toNat_ofNat16 (by omega)]
    exact ⟨hh, hh'⟩
  · rwa [toNat_ofNat8 (by omega)]
  · rwa [toNat_ofNat8 (by omega)]

theorem meterGood_meterWords {m : Meter} (h : m.lawful) : meterGood (meterWords m) = true := by
  rw [meterGood, meterOfWords_meterWords h, beq_self_eq_true]

theorem budgetGood_budgetWords {b : Budget} (h : b.lawful) : budgetGood (budgetWords b) = true := by
  have hback := budgetOfWords_budgetWords h
  obtain ⟨hf, hf', hv, hv', -⟩ := h
  rw [budgetGood, hback, beq_self_eq_true, Bool.true_and, Bool.and_eq_true, decide_eq_true_eq, decide_eq_true_eq,
    BitVec.lt_def, BitVec.lt_def]
  simp only [budgetWords]
  rw [toNat_ofNat16 (by omega), toNat_ofNat16 (by omega), toNat_ofNat16 (by omega), toNat_ofNat16 (by omega)]
  exact ⟨hf, hv⟩

theorem restGood_pointWords {t : Vector Point 8} (h : restLawful t) :
    restGood (Vector.ofFn fun i => pointWords t[i]) = true := by
  obtain ⟨hrange, hordered⟩ := h
  have hvoltage : ∀ i : Fin 8, (pointWords t[i]).voltage.toNat = t[i].voltage := fun i =>
    toNat_ofNat16 (by obtain ⟨hv, -⟩ := hrange i; omega)
  have hfraction : ∀ i : Fin 8, (pointWords t[i]).fraction.toNat = t[i].fraction := fun i =>
    toNat_ofNat16 (by obtain ⟨-, hf⟩ := hrange i; omega)
  have hget : ∀ i : Fin 8, (Vector.ofFn fun i : Fin 8 => pointWords t[i])[i] = pointWords t[i] := fun i => by simp
  rw [restGood_iff]
  simp only [hget, hvoltage, hfraction]
  exact ⟨hrange, fun i => hordered _ _ Fin.castSucc_lt_succ⟩

section
variable {s : State}

theorem State.saveImage_channel (s : State) (n : Channel) : s.saveImage.channels[n] = channelWords (s.load n) := by
  simp [State.saveImage, sealImage]

theorem State.saveImage_point (s : State) (i : Fin 8) : s.saveImage.rest[i] = pointWords s.rest[i] := by
  simp [State.saveImage, sealImage]

/-- Lawful values give a good image (R190, R194). -/
theorem State.saveImage_good (hm : s.meter.lawful) (hb : s.budget.lawful) (hr : restLawful s.rest)
    (hl : s.recordsInRange) : s.saveImage.good := by
  have hmeter : meterGood s.saveImage.meter = true := meterGood_meterWords hm
  have hbudget : budgetGood s.saveImage.budget = true := budgetGood_budgetWords hb
  have hrest : restGood s.saveImage.rest = true := restGood_pointWords hr
  have hchannels : s.saveImage.channels.toList.all channelGood = true := by
    rw [all_toList_iff]
    intro n
    rw [s.saveImage_channel]
    exact (channelGood_iff _).mpr (channelWords_good (hl.1 n))
  rw [← imageGood_iff, imageGood, hmeter, hbudget, hrest, hchannels, State.saveImage, passesChecksum_sealImage]
  rfl

end

/-- Settles O50: the image is formed of the words held, sealed, and passes every check of start-up. -/
theorem saveProfileFormsAGoodImage : Obligations.SaveProfileFormsAGoodImage := by
  intro s argument hp hr
  refine ⟨fun hbusy => ?_, fun hidle => ⟨s.saveImage, ?_, rfl, rfl, s.saveImage_point, fun n => ?_, ?_,
    State.saveImage_good⟩⟩
  · obtain ⟨image, himage⟩ := Option.ne_none_iff_exists'.mp hbusy
    refine (whenAnswering_of hp hr _).trans (congrArg _ ?_)
    refine State.command_eq (u := { s with port := s.port.reach .command 4 }) (result := .busy) (by decide) ?_ rfl
    simp only [State.saveProfile, himage]
  · refine (whenAnswering_of hp hr _).trans (congrArg _ ?_)
    refine State.command_eq (result := .done)
      (u := { s with port := s.port.reach .command 4, store := { s.store with saving := some s.saveImage } }) (by decide) ?_ rfl
    simp only [State.saveProfile, hidle]
    rfl
  · rw [s.saveImage_channel, channelWords_eq]
  · exact (passesChecksum_iff _).mp (passesChecksum_sealImage _)

/-! ## The loss of power (R191) -/

theorem not_good_erasedStore : ¬erasedStore.good := by
  rintro ⟨-, ⟨⟨-, hcapacity⟩, -⟩, -⟩
  exact absurd hcapacity (by decide)

/-- What a loss of power leaves of a save in flight (R191). -/
theorem storeAfterLoss_of_early (image held : StoreWords) {cut : SaveCut} (hcut : cut ≠ .duringReadBack) :
    ¬(storeAfterLoss (some image) held cut).good := by
  cases cut with
  | duringReadBack => exact absurd rfl hcut
  | beforeChecksum left =>
    rw [storeAfterLoss]
    split
    · exact not_good_erasedStore
    · next hbad => exact fun hgood => hbad ((imageGood_iff left).mpr hgood)

/-- Without power every command but POWER_ON changes nothing (log 11). -/
theorem exec_unpowered {c : Instr} {s : State} (hp : s.powered = false) (hc : ∀ a b : Bool, c ≠ .powerOn a b) :
    exec c s = .next s := by
  cases c
  case powerOn a b => exact absurd rfl (hc a b)
  case pointerSet | readTransaction | statusSnapshot | partialWrite | listsWrite | statusCommit | setChangeMask | loadCommit
    | meterProfileCommit | budgetProfileCommit | restTableCommit | setReserve | clearAnchor | saveProfile | restart
    | clearFault | forgetDraw => exact whenAnswering_unpowered hp _
  all_goals exact whenPowered_unpowered hp _

/-- Settles O52: the part stands as POWER_ON sets it, and the store at what the save left. -/
theorem lossOfPowerKeepsTheStoreAlone : Obligations.LossOfPowerKeepsTheStoreAlone := by
  refine ⟨fun s cut hp => ⟨_, whenPowered_of hp _, fun n => ?_, ?_, ⟨_, rfl, rfl⟩, fun hidle => ?_, fun image himage =>
    ⟨fun hcut => ?_, fun hcut => ?_⟩⟩, fun c s hp hc => exec_unpowered hp hc⟩
  · simp [State.outputs, State.load, State.poweredOn, Load.on]
  · show ((0x00 : Byte) &&& 0xDF != 0) = false
    decide
  · show storeAfterLoss s.store.saving s.store.image cut = _
    rw [hidle]
    rfl
  · show storeAfterLoss s.store.saving s.store.image cut = _
    rw [himage, hcut]
    rfl
  · show ¬(storeAfterLoss s.store.saving s.store.image cut).good
    rw [himage]
    exact storeAfterLoss_of_early _ _ hcut

/-! ## Stage 2 (R194) -/

/-- What stage 2 makes of the part, with the image that it uses. -/
theorem State.stage2_eq (s : State) (image : StoreWords) (h : image = usedImage s.store.image) :
    s.stage2 = { s with
      meter := meterOfWords image.meter, budget := (budgetOfWords image.budget).corrected, rest := restOfWords image.rest
      reserve := s.reserve.clampTo (meterOfWords image.meter)
      engine := { s.engine with
        allowance := min s.engine.allowance ((budgetOfWords image.budget).corrected.aMax * 10) }
      port := { s.port with
        flags := if (!imageGood s.store.image || s.store.failedCarry) = true then 0x40 else 0x00, enables := 0xDF }
      store := { s.store with failedCarry := false }
      startup := { s.startup with kept := some image.channels } } := by
  subst h
  simp only [State.stage2]
  generalize usedImage s.store.image = image
  have hmask : (0 : Byte) ||| Flag.storeFault.mask = 0x40 := by decide
  by_cases hfault : (!imageGood s.store.image || s.store.failedCarry) = true
  · simp only [if_pos hfault, State.raise, hmask]
    rfl
  · simp only [if_neg hfault]
    rfl

theorem usedImage_of_good {w : StoreWords} (h : w.good) : usedImage w = w := if_pos ((imageGood_iff w).mpr h)

theorem usedImage_of_bad {w : StoreWords} (h : ¬w.good) : usedImage w = factoryImage :=
  if_neg fun hgood => h ((imageGood_iff w).mp hgood)

theorem meterOfWords_of_good {w : StoreWords} (h : w.good) : meterOfWords w.meter = w.meter.held := by
  obtain ⟨-, ⟨⟨hc, hc'⟩, ⟨hp, hp'⟩, ⟨he, he'⟩, hr, ⟨hq, hq'⟩, hf, ⟨ht, ht'⟩, htol, hv, ⟨hft, hft'⟩⟩, -⟩ := h
  rw [meterOfWords, clampTo_of hc hc', clampTo_of hp hp', clampTo_of he he', clampTo_of hq hq', clampTo_of ht ht',
    clampTo_of hft hft', min_eq_left hr, min_eq_left hf, min_eq_left htol, min_eq_left hv]

/-- The relations of a good image leave nothing to correct (R71, R194). -/
theorem budgetOfWords_of_good {w : StoreWords} (h : w.good) : (budgetOfWords w.budget).corrected = w.budget.held := by
  obtain ⟨-, -, ⟨hvOk, hvCut, hfull, hfloor, ha, ⟨hs, hs'⟩, ⟨hc, hc'⟩, ⟨hd, hd'⟩, hf, hv⟩, -⟩ := h
  rw [budgetOfWords, clampTo_of hs hs', clampTo_of hc hc', clampTo_of hd hd', min_eq_left hvOk, min_eq_left hvCut,
    min_eq_left hfull, min_eq_left hfloor, max_eq_right ha]
  simp only [Budget.corrected, keepAbove, if_pos hf, if_pos hv]

theorem restOfWords_of_good {w : StoreWords} (h : w.good) (i : Fin 8) :
    (restOfWords w.rest)[i] = ⟨w.rest[i].voltage.toNat, w.rest[i].fraction.toNat⟩ := by
  obtain ⟨-, -, -, ⟨hrange, -⟩, -⟩ := h
  obtain ⟨hv, hf⟩ := hrange i
  rw [restOfWords_get, pointOfWords_of hv hf]

/-! The values of the factory image (R189). -/

theorem meterOfWords_factoryImage : meterOfWords factoryImage.meter = {} := meterOfWords_meterWords (by decide)

theorem budgetOfWords_factoryImage : (budgetOfWords factoryImage.budget).corrected = {} := by
  have hback : budgetOfWords factoryImage.budget = {} := budgetOfWords_budgetWords (by decide)
  rw [hback]
  decide

theorem restOfWords_factoryImage : restOfWords factoryImage.rest = factoryRest := by decide

theorem factoryImage_channel (n : Channel) : factoryImage.channels[n] = channelWords {} := by
  simp [factoryImage, sealImage]

theorem Reserve.clampTo_of_some {e : Reserve} {q : Nat} (h : e.q = some q) (m : Meter) :
    e.clampTo m = if m.capacityMas < q then { e with q := some m.capacityMas, remainder := 0 } else e := by
  simp only [Reserve.clampTo, h]

theorem Reserve.clampTo_of_none {e : Reserve} (h : e.q = none) (m : Meter) : e.clampTo m = e := by
  simp only [Reserve.clampTo, h]

theorem exec_startupStage2_due {s : State} (hp : s.powered = true) (hr : s.startup.ready = false)
    (ht : 20 ≤ s.startup.ticks) (hk : s.startup.kept = none) : exec .startupStage2 s = .next s.stage2 := by
  have hdue : s.stage2Due = true := by simp [State.stage2Due, stage2Tick, hr, ht, hk]
  refine (whenPowered_of hp _).trans ?_
  rw [if_pos hdue]

theorem exec_startupStage2_undue {s : State}
    (h : s.startup.ready = true ∨ s.startup.ticks < 20 ∨ s.startup.kept ≠ none) : exec .startupStage2 s = .next s := by
  have hundue : ¬s.stage2Due = true := by
    simp only [State.stage2Due, stage2Tick, Bool.and_eq_true, Bool.not_eq_true', Option.isNone_iff_eq_none]
    rintro ⟨⟨hr, ht⟩, hk⟩
    rcases h with h | h | h
    · exact absurd h (by simp [hr])
    · exact absurd (of_decide_eq_true ht) (Nat.not_le.mpr h)
    · exact h hk
  exact whenPowered_undue hundue _

/-- Settles O53: the fields of a good image pass the clamps and the corrections as they are; a bad one gives way to the
factory image. -/
theorem stageTwoTakesProfilesFromTheStore : Obligations.StageTwoTakesProfilesFromTheStore := by
  intro s hp
  refine ⟨exec_startupStage2_undue, fun hr ht hk => ⟨_, exec_startupStage2_due hp hr ht hk, ?_⟩⟩
  obtain ⟨image, himage⟩ : ∃ image, image = usedImage s.store.image := ⟨_, rfl⟩
  have hflags : ((!imageGood s.store.image || s.store.failedCarry) = true)
      = (¬s.store.image.good ∨ s.store.failedCarry = true) := by
    rw [Bool.or_eq_true, Bool.not_eq_true', ← Bool.not_eq_true, imageGood_iff]
  rw [s.stage2_eq image himage]
  refine ⟨?_, fun q hq => Reserve.clampTo_of_some hq _, fun hq => Reserve.clampTo_of_none hq _, fun hgood => ?_, fun hbad => ?_⟩
  · simp only [hflags]
  · rw [usedImage_of_good hgood] at himage
    subst himage
    exact ⟨meterOfWords_of_good hgood, budgetOfWords_of_good hgood, restOfWords_of_good hgood, rfl⟩
  · rw [usedImage_of_bad hbad] at himage
    subst himage
    refine ⟨meterOfWords_factoryImage, budgetOfWords_factoryImage, restOfWords_factoryImage, _, rfl, fun n => ?_⟩
    rw [factoryImage_channel]
    decide

end Sys2Proof.Machine
end

section
/-! PROOFS. The restart and the completion of a save (R191 to R193, R196). -/

namespace Sys2Proof.Machine

section
variable {s : State}

/-- A record at stage 1 of a restart (R193). -/
theorem Load.stage1_eq (r : Load) : r.stage1 = if r.state = .vacant then r else { r with
    state := .idle, request := false, reason := .none, shed := false, waitHold := false, waitMinOn := false
    retriesUsed := 0, settleTimer := 0, holdTimer := 0, retryTimer := none, cleanRun := 0, requestStamp := none
    startStamp := none, window := .closed, blanking := 0, diagRun := 0 } := by
  unfold Load.stage1 Load.enrolled
  by_cases hv : r.state = .vacant
  · rw [if_pos hv, if_neg (by simp [hv])]
  · rw [if_neg hv, if_pos (bne_iff_ne.mpr hv)]

/-- The port at the beginning of a restart (R182, R193). -/
theorem Port.restarted_eq (p : Port) : p.restarted = { p with
    space := .load, index := 0, offset := 0, staging := [], snapshot := none, sent := [], mask := none
    partialMark := false, refusedMark := false, last := ⟨0xFF, 0xFF, 0x00, 0⟩ } := rfl

/-- A restart begins as R193 and R196 say. -/
theorem State.restartsAs_beginRestart (s : State) : s.restartsAs s.beginRestart := by
  refine ⟨?_, fun n => ?_⟩
  · rw [State.beginRestart, Port.restarted_eq]
    rfl
  · rw [s.load_beginRestart, Load.stage1_eq]

theorem Port.restarted_afterCommand (i : Nat) (channel result : Byte) (p : Port) :
    (p.afterCommand i channel result).restarted = p.restarted := by
  simp only [Port.afterCommand, Port.afterRecord]
  split <;> rfl

/-- What the port alone was about to hold is lost at a restart (R182). -/
theorem State.beginRestart_withPort {p : Port} (hp : p.restarted = s.port.restarted) :
    ({ s with port := p } : State).beginRestart = s.beginRestart := by
  simp only [State.beginRestart, State.mapLoads, State.load, hp]

/-- The part at the end of a save, before a pending restart begins (R191). -/
def State.saveEnded (image found : StoreWords) (s : State) : State :=
  { s with
    store := { s.store with image := found, saving := none }
    port := if found = image then s.port else s.port.withFlag 6 }

theorem State.completeSave_eq (image found : StoreWords) (s : State) :
    s.completeSave image found = if s.store.restartPending then
      ({ s.saveEnded image found with
        store := { (s.saveEnded image found).store with
          failedCarry := decide (found ≠ image) || s.store.failedCarry } }).beginRestart
    else s.saveEnded image found := by
  by_cases hsame : found = image
  · subst hsame
    simp only [State.completeSave, State.saveEnded, ne_eq, not_true_eq_false, decide_false, Bool.false_eq_true, if_false,
      if_true]
  · simp only [State.completeSave, State.saveEnded, hsame, ne_eq, not_false_eq_true, decide_true, if_true]
    rfl

end

/-- Settles O51: both ways into a restart end in its beginning, which is stage 1. -/
theorem restartBeginsAtOnceOrAtCompletion : Obligations.RestartBeginsAtOnceOrAtCompletion := by
  intro s hp
  refine ⟨fun argument hr => ⟨fun hidle => ?_, fun hbusy => ?_⟩, fun found => ⟨fun hidle => ?_, fun image himage => ?_⟩⟩
  · refine ⟨s.beginRestart, (whenAnswering_of hp hr _).trans (congrArg _ ?_), s.restartsAs_beginRestart⟩
    have hcommand : s.command 5 0xFF (fun t => (t, .done)) = { s with port := s.port.afterCommand 5 0xFF 0x01 } :=
      State.command_eq (u := { s with port := s.port.reach .command 5 }) (result := .done) (by decide) rfl rfl
    simp only [hidle]
    rw [hcommand]
    exact State.beginRestart_withPort (Port.restarted_afterCommand _ _ _ _)
  · have hcommand : s.command 5 0xFF (fun t => ({ t with store := { t.store with restartPending := true } }, .pending))
        = { s with
          store := { s.store with restartPending := true }, port := s.port.afterCommand 5 0xFF (resultCode .pending) } :=
      State.command_eq (u := { s with port := s.port.reach .command 5, store := { s.store with restartPending := true } })
        (by decide) rfl rfl
    refine (whenAnswering_of hp hr _).trans ?_
    split
    · next hidle => exact absurd hidle hbusy
    · exact congrArg _ hcommand
  · refine (whenPowered_of hp _).trans (congrArg _ ?_)
    simp only [hidle]
  · have hexec : exec (.saveCompletion found) s = .next (s.completeSave image found) := by
      refine (whenPowered_of hp _).trans (congrArg _ ?_)
      simp only [himage]
    rw [s.completeSave_eq] at hexec
    refine ⟨fun hnone => ?_, fun hpending => ⟨_, ?_, State.restartsAs_beginRestart _⟩⟩
    · rw [hnone, if_neg (by decide)] at hexec
      exact hexec
    · rw [hpending, if_pos rfl] at hexec
      exact hexec

end Sys2Proof.Machine
end

section
/-! PROOFS. Stage 3 of start-up: the Load Table and the lists rebuilt (R25, R104, R195). -/

namespace Sys2Proof.Machine

/-! ## The record of a stored channel (R25) -/

/-- An enrolled channel whose request comes up ON at stage 3: from its switch in FOLLOW mode, from its restart policy in any
other (R25). -/
def askedAtStart (c : ChannelWords) (pressed : Bool) : Bool :=
  c.enrolled == 0x01 && (if c.switchMode = 0x02 then pressed else c.restartPolicy == 0x01)

theorem switchModeOfCode_getD {b : Byte} (h : b.toNat ≤ 3) : (switchModeOfCode b).getD .none =
    if b = 0x00 then .none else if b = 0x01 then .toggle else if b = 0x02 then .follow else .onOnly := by
  revert b; decide

theorem switchModeOfCode_follow {b : Byte} : (switchModeOfCode b).getD .none = .follow ↔ b = 0x02 := by
  revert b; decide

theorem holdLineOfCode_getD {b : Byte} (h : b.toNat ≤ 4) : (holdLineOfCode b).getD none =
    if b = 0x00 then none else if b = 0x01 then some 0 else if b = 0x02 then some 1 else if b = 0x03 then some 2
    else some 3 := by
  revert b; decide

theorem restartPolicyOfCode_getD {b : Byte} (h : b.toNat ≤ 1) : (restartPolicyOfCode b).getD .startOff =
    if b = 0x00 then .startOff else .startOn := by
  revert b; decide

theorem restartPolicyOfCode_startOn {b : Byte} : (restartPolicyOfCode b).getD .startOff = .startOn ↔ b = 0x01 := by
  revert b; decide

theorem Load.rebuilt_of_vacant {c : ChannelWords} (h : c.enrolled = 0x00) (pressed : Bool) : Load.rebuilt c pressed = {} := by
  rw [Load.rebuilt, if_neg (by rw [h]; decide)]

theorem Load.rebuilt_of_enrolled {c : ChannelWords} (hg : c.good) (h : c.enrolled = 0x01) (pressed : Bool) :
    Load.rebuilt c pressed = c.record (askedAtStart c pressed) none := by
  obtain ⟨-, -, -, -, -, hmode, hline, -, -, -, -, -, hpolicy⟩ := hg
  have hrequest : askedAtStart c pressed = if (switchModeOfCode c.switchMode).getD .none = .follow then pressed
      else decide ((restartPolicyOfCode c.restartPolicy).getD .startOff = .startOn) := by
    simp only [askedAtStart, h, switchModeOfCode_follow, restartPolicyOfCode_startOn, beq_self_eq_true, Bool.true_and]
    rfl
  rw [hrequest, Load.rebuilt, if_pos h]
  simp only [switchModeOfCode_getD hmode, holdLineOfCode_getD hline, restartPolicyOfCode_getD hpolicy, drawOfWord]

theorem Load.rebuilt_asked (c : ChannelWords) (pressed : Bool) :
    (Load.rebuilt c pressed).request = askedAtStart c pressed := by
  by_cases h : c.enrolled = 0x01
  · simp only [Load.rebuilt, askedAtStart, h, switchModeOfCode_follow, restartPolicyOfCode_startOn,
      beq_self_eq_true, Bool.true_and]
    rfl
  · rw [Load.rebuilt, if_neg h, askedAtStart, beq_eq_false_iff_ne.mpr h]
    rfl

/-! ## The entries into STANDBY (R104) -/

/-- A record as stage 3 enters it into STANDBY with this request stamp (R19, R104). -/
def Load.entered (forced : Bool) (stamp : Nat) (r : Load) : Load :=
  { r with requestStamp := some stamp, state := .standby, reason := r.reasonAtEntry forced, retryTimer := none }

/-- The records of a list have entered STANDBY, stamped in its order, and the others are as they were. -/
structure State.Entered (s : State) (asks : List Channel) (t : State) : Prop where
  engine : t.engine = { s.engine with seq := s.engine.seq + asks.length, standbyList := t.engine.standbyList }
  kept : ∀ n, n ∉ asks → t.load n = s.load n
  entered : ∀ n, n ∈ asks → t.load n = (s.load n).entered s.forceOff.level (s.engine.seq + asks.idxOf n)

section
variable {s t u : State} {n : Channel} {l : List Channel}

theorem State.rebuildEntry_of_off (h : (s.load n).request = false) : s.rebuildEntry n = s := by
  rw [State.rebuildEntry, if_neg (by simp [h])]

theorem State.engine_rebuildEntry (h : (s.load n).request = true) (hroom : s.engine.seq < 4294967295) :
    (s.rebuildEntry n).engine
      = { s.engine with seq := s.engine.seq + 1, standbyList := (s.rebuildEntry n).engine.standbyList } := by
  rw [State.rebuildEntry, if_pos h, State.engine_enterStandby, State.stampIssued, if_pos (by exact hroom)]
  rfl

theorem State.load_rebuildEntry_self (h : (s.load n).request = true) :
    (s.rebuildEntry n).load n = (s.load n).entered s.forceOff.level s.engine.seq := by
  rw [s.load_rebuildEntry, if_pos ⟨rfl, h⟩]
  rfl

theorem State.load_rebuildEntry_of_ne {m : Channel} (h : m ≠ n) : (s.rebuildEntry n).load m = s.load m := by
  rw [s.load_rebuildEntry, if_neg fun he => h he.1]

theorem State.rebuildEntry_forceOff : (s.rebuildEntry n).forceOff = s.forceOff := State.forceOff_of_apart (by simp)

/-- The list rebuild enters exactly the requested records, in the order of the list (R104). -/
theorem State.entered_foldl (hl : l.Nodup) (hroom : s.engine.seq + l.length < 4294967295) :
    s.Entered (l.filter fun n => (s.load n).request) (l.foldl (fun (t : State) n => t.rebuildEntry n) s) := by
  induction l generalizing s with
  | nil => exact ⟨rfl, fun _ _ => rfl, nofun⟩
  | cons n l ih =>
    obtain ⟨hn, hl⟩ := List.nodup_cons.mp hl
    rw [List.length_cons] at hroom
    rw [List.foldl_cons]
    by_cases hq : (s.load n).request = true
    case neg =>
      rw [List.filter_cons_of_neg (p := fun m => (s.load m).request) hq, State.rebuildEntry_of_off (by simpa using hq)]
      exact ih hl (by omega)
    case pos =>
      have hother : ∀ m ∈ l, (s.rebuildEntry n).load m = s.load m := fun m hm =>
        State.load_rebuildEntry_of_ne fun he => hn (he ▸ hm)
      have hengine := State.engine_rebuildEntry hq (by omega)
      have hseq : (s.rebuildEntry n).engine.seq = s.engine.seq + 1 := by rw [hengine]
      have hasks : (l.filter fun m => ((s.rebuildEntry n).load m).request) = l.filter fun m => (s.load m).request :=
        List.filter_congr fun m hm => by rw [hother m hm]
      obtain ⟨hengine', hkept, hentered⟩ := ih (s := s.rebuildEntry n) hl (by omega)
      rw [hasks] at hengine' hkept hentered
      rw [List.filter_cons_of_pos (p := fun m => (s.load m).request) hq]
      have hnot : n ∉ l.filter fun m => (s.load m).request := fun hm => hn (List.mem_of_mem_filter hm)
      refine ⟨?_, fun m hm => ?_, fun m hm => ?_⟩
      · rw [hengine', hseq, hengine, List.length_cons, Nat.add_assoc, Nat.add_comm 1]
      · obtain ⟨hmn, hml⟩ : m ≠ n ∧ m ∉ l.filter fun m => (s.load m).request := by simpa only [List.mem_cons, not_or] using hm
        rw [hkept m hml, State.load_rebuildEntry_of_ne hmn]
      · rcases List.mem_cons.mp hm with rfl | hml
        · rw [hkept m hnot, State.load_rebuildEntry_self hq, List.idxOf_cons_self, Nat.add_zero]
        · have hmn : n ≠ m := fun he => hnot (he ▸ hml)
          rw [hentered m hml, State.load_rebuildEntry_of_ne hmn.symm, State.rebuildEntry_forceOff, hseq,
            List.idxOf_cons_ne _ hmn, Nat.add_assoc, Nat.add_comm 1]

/-! ## The order of the starts (R93, R104) -/

theorem channels_ascending : channels.Pairwise (· < ·) := by decide

/-- In an ascending list the place of a channel tells its order. -/
theorem lt_of_idxOf_lt {a b : Channel} (h : l.Pairwise (· < ·)) (ha : a ∈ l) (hb : b ∈ l)
    (hlt : l.idxOf a < l.idxOf b) : a < b := by
  have hplaces := List.pairwise_iff_getElem.mp h _ _ (List.idxOf_lt_length_of_mem ha) (List.idxOf_lt_length_of_mem hb) hlt
  simpa using hplaces

/-- Two ascending lists of the same channels are one. -/
theorem eq_of_ascending {l' : List Channel} (hl : l.Pairwise (· < ·)) (hl' : l'.Pairwise (· < ·))
    (h : ∀ m, m ∈ l ↔ m ∈ l') : l = l' := by
  have hnodup : ∀ {k : List Channel}, k.Pairwise (· < ·) → k.Nodup := fun hk => hk.imp fun hlt => Fin.ne_of_lt hlt
  exact ((List.perm_ext_iff_of_nodup (hnodup hl) (hnodup hl')).mpr h).eq_of_pairwise
    (fun a b _ _ hab hba => absurd (hab.trans hba) (Fin.lt_irrefl a)) hl hl'

end

end Sys2Proof.Machine
end

section
/-! PROOFS. Stage 3 of start-up, the starts of the essentials (R98, R104, R159, R164, R195). -/

namespace Sys2Proof.Machine

section
variable {s : State} {kept : Vector ChannelWords 12} {n : Channel}

/-- The channels whose request comes up ON at stage 3 (R25). -/
def State.askedOf (s : State) (kept : Vector ChannelWords 12) (n : Channel) : Bool :=
  askedAtStart kept[n] s.switches[n].pressed

/-- The essentials that stage 3 starts (R102, R104). -/
def State.startedOf (s : State) (kept : Vector ChannelWords 12) (n : Channel) : Bool :=
  s.askedOf kept n && kept[n].cls == 0 && kept[n].minOff == 0 && !s.forceOff.level

theorem State.askedOf_enrolled (h : s.askedOf kept n = true) : kept[n].enrolled = 0x01 := by
  simp only [State.askedOf, askedAtStart, Bool.and_eq_true, beq_iff_eq] at h
  obtain ⟨henrolled, -⟩ := h
  exact henrolled

/-! ## The part before the essentials start -/

theorem State.entriesRebuilt_entered (s : State) (kept : Vector ChannelWords 12) :
    (s.tableRebuilt kept).Entered (channels.filter (s.askedOf kept)) (s.entriesRebuilt kept) := by
  have hroom : (s.tableRebuilt kept).engine.seq + channels.length < 4294967295 := by
    show 0 + 12 < 4294967295
    decide
  have hasks : (channels.filter fun n => ((s.tableRebuilt kept).load n).request) = channels.filter (s.askedOf kept) :=
    List.filter_congr fun n _ => by rw [s.load_tableRebuilt, Load.rebuilt_asked, State.askedOf]
  rw [← hasks]
  exact State.entered_foldl channels_nodup hroom

theorem State.entriesRebuilt_apart (s : State) (kept : Vector ChannelWords 12) : (s.entriesRebuilt kept).apart = s.apart :=
  foldl_keeps State.apart (fun t n => t.rebuildEntry_apart n) channels (s.tableRebuilt kept)

theorem State.entriesRebuilt_engine (s : State) (kept : Vector ChannelWords 12) :
    (s.entriesRebuilt kept).engine = { s.engine with
      seq := (channels.filter (s.askedOf kept)).length, exhausted := false, runList := []
      standbyList := (s.entriesRebuilt kept).engine.standbyList } := by
  have hengine := (s.entriesRebuilt_entered kept).engine
  rw [hengine]
  simp only [State.tableRebuilt, Nat.zero_add]

theorem State.load_entriesRebuilt_of_unasked (h : s.askedOf kept n = false) :
    (s.entriesRebuilt kept).load n = Load.rebuilt kept[n] s.switches[n].pressed := by
  rw [(s.entriesRebuilt_entered kept).kept n (by simp [h]), s.load_tableRebuilt]

theorem State.load_entriesRebuilt_of_asked (hg : kept[n].good) (h : s.askedOf kept n = true) :
    (s.entriesRebuilt kept).load n = (kept[n].record true none).entered s.forceOff.level
      ((channels.filter (s.askedOf kept)).idxOf n) := by
  have hseq : (s.tableRebuilt kept).engine.seq = 0 := rfl
  have hforce : (s.tableRebuilt kept).forceOff = s.forceOff := rfl
  have hrequest : askedAtStart kept[n] s.switches[n].pressed = true := h
  rw [(s.entriesRebuilt_entered kept).entered n (mem_channels_filter.mpr h), s.load_tableRebuilt,
    Load.rebuilt_of_enrolled hg (State.askedOf_enrolled h), hrequest, hseq, hforce, Nat.zero_add]

/-! ## The essentials that start, in channel order (R104) -/

theorem State.mem_standbyList_entriesRebuilt (hg : ∀ n : Channel, kept[n].good) :
    n ∈ (s.entriesRebuilt kept).engine.standbyList ↔ s.askedOf kept n = true := by
  obtain ⟨-, ⟨-, hstandby, -⟩, -⟩ := s.listsInOrder_entriesRebuilt kept
  rw [hstandby]
  by_cases h : s.askedOf kept n = true
  · rw [State.load_entriesRebuilt_of_asked (hg n) h]
    exact ⟨fun _ => h, fun _ => rfl⟩
  · rw [State.load_entriesRebuilt_of_unasked (by simpa using h)]
    refine ⟨fun hstate => absurd hstate (Load.fresh_rebuilt _ _).outside, fun hasked => absurd hasked h⟩

theorem State.essentialDue_entriesRebuilt (hg : kept[n].good) (h : s.askedOf kept n = true) :
    (s.entriesRebuilt kept).essentialDue n = s.startedOf kept n := by
  have hforce : (s.entriesRebuilt kept).forceOff = s.forceOff := State.forceOff_of_apart (s.entriesRebuilt_apart kept)
  have hcls : (kept[n].cls == 0) = (kept[n].cls.toNat == 0) := by
    rw [Bool.eq_iff_iff, beq_iff_eq, beq_iff_eq, ← BitVec.toNat_inj]
    rfl
  have hminOff : (kept[n].minOff == 0) = decide (kept[n].minOff.toNat ≤ 0) := by
    rw [Bool.eq_iff_iff, beq_iff_eq, decide_eq_true_eq, Nat.le_zero, ← BitVec.toNat_inj]
    rfl
  simp only [State.essentialDue, State.startedOf, hforce, State.load_entriesRebuilt_of_asked hg h, h, hcls, hminOff,
    Load.entered, Bool.true_and]
  rw [Bool.and_assoc, Bool.and_comm]

theorem State.mem_due_entriesRebuilt (hg : ∀ n : Channel, kept[n].good) :
    n ∈ (s.entriesRebuilt kept).engine.standbyList.filter (s.entriesRebuilt kept).essentialDue
      ↔ s.startedOf kept n = true := by
  rw [List.mem_filter, State.mem_standbyList_entriesRebuilt hg]
  by_cases h : s.askedOf kept n = true
  · rw [State.essentialDue_entriesRebuilt (hg n) h]
    exact and_iff_right h
  · refine ⟨fun ⟨hasked, _⟩ => absurd hasked h, fun hstarts => absurd ?_ h⟩
    simp only [State.startedOf, Bool.and_eq_true] at hstarts
    obtain ⟨⟨⟨hasked, -⟩, -⟩, -⟩ := hstarts
    exact hasked

/-- The Standby List holds its class 0 records in channel order, for they were stamped in it (R93, R104). -/
theorem State.due_entriesRebuilt (hg : ∀ n : Channel, kept[n].good) :
    (s.entriesRebuilt kept).engine.standbyList.filter (s.entriesRebuilt kept).essentialDue
      = channels.filter (s.startedOf kept) := by
  obtain ⟨-, -, -, -, hordered, -⟩ := s.listsInOrder_entriesRebuilt kept
  refine eq_of_ascending ?_ (channels_ascending.filter _) fun m => ?_
  · refine (hordered.filter _).imp_of_mem fun {a b} ha hb hlt => ?_
    have hstamp : ∀ m ∈ (s.entriesRebuilt kept).engine.standbyList.filter (s.entriesRebuilt kept).essentialDue,
        m ∈ channels.filter (s.askedOf kept) ∧ ((s.entriesRebuilt kept).load m).cls = 0
          ∧ ((s.entriesRebuilt kept).load m).requestStamp.getD 0 = (channels.filter (s.askedOf kept)).idxOf m := by
      intro m hm
      obtain ⟨hlisted, hdue⟩ := List.mem_filter.mp hm
      have hasked := (State.mem_standbyList_entriesRebuilt hg).mp hlisted
      refine ⟨mem_channels_filter.mpr hasked, ?_, ?_⟩
      · simp only [State.essentialDue, Bool.and_eq_true, beq_iff_eq] at hdue
        obtain ⟨⟨-, hcls⟩, -⟩ := hdue
        exact hcls
      · rw [State.load_entriesRebuilt_of_asked (hg m) hasked]
        rfl
    obtain ⟨hma, hca, hsa⟩ := hstamp a ha
    obtain ⟨hmb, hcb, hsb⟩ := hstamp b hb
    rw [hca, hcb, hsa, hsb] at hlt
    exact lt_of_idxOf_lt (channels_ascending.filter _) hma hmb (by omega)
  · rw [State.mem_due_entriesRebuilt hg, mem_channels_filter]

theorem length_filter_channels (p : Channel → Bool) : (channels.filter p).length ≤ 12 := List.length_filter_le _ _

/-- The essentials start in channel order, each with a stamp (R104). -/
theorem State.essentialSweep_entriesRebuilt (hg : ∀ n : Channel, kept[n].good) :
    (s.entriesRebuilt kept).Startable (channels.filter (s.startedOf kept))
      ∧ (s.entriesRebuilt kept).essentialSweep
        = (s.entriesRebuilt kept).startAll (channels.filter (s.startedOf kept)) := by
  have hstarts := State.essentialSweep_starts (s.listsInOrder_entriesRebuilt kept)
  have hleft : (channels.filter (s.startedOf kept)).length ≤ (s.entriesRebuilt kept).engine.stampsLeft := by
    have hasks := length_filter_channels (s.askedOf kept)
    have hstarted := length_filter_channels (s.startedOf kept)
    have hseq : (s.entriesRebuilt kept).engine.seq = (channels.filter (s.askedOf kept)).length := by
      rw [s.entriesRebuilt_engine kept]
    have hunspent : (s.entriesRebuilt kept).engine.exhausted = false := by rw [s.entriesRebuilt_engine kept]
    rw [Engine.stampsLeft, hunspent, hseq, if_neg (by decide)]
    omega
  rwa [State.due_entriesRebuilt hg, List.take_of_length_le hleft] at hstarts

/-! ## The part after stage 3 -/

theorem State.stage3_port (s : State) (kept : Vector ChannelWords 12) : (s.stage3 kept).port = s.port := by
  have hentries : (s.entriesRebuilt kept).port = s.port :=
    foldl_keeps State.port (fun t n => by unfold State.rebuildEntry; split <;> simp) channels (s.tableRebuilt kept)
  have hswept : (s.entriesRebuilt kept).essentialSweep.port = s.port := by simp [hentries]
  rw [s.stage3_eq]
  generalize (s.entriesRebuilt kept).essentialSweep = u at hswept ⊢
  exact hswept

theorem State.stage3_engine (hg : ∀ n : Channel, kept[n].good) : (s.stage3 kept).engine = { s.engine with
    spacing := 255, holdOff := 0
    seq := (channels.filter (s.askedOf kept)).length + (channels.filter (s.startedOf kept)).length
    exhausted := false, runList := channels.filter (s.startedOf kept)
    standbyList := (s.stage3 kept).engine.standbyList } := by
  obtain ⟨hstartable, hsweep⟩ := State.essentialSweep_entriesRebuilt (s := s) hg
  have hasks := length_filter_channels (s.askedOf kept)
  have hstarted := length_filter_channels (s.startedOf kept)
  have hengine := hstartable.engine_startAll
  have hstage : (s.stage3 kept).engine
      = { (s.entriesRebuilt kept).essentialSweep.engine with spacing := 255, holdOff := 0 } := by
    rw [s.stage3_eq]
    rfl
  have hlast : min ((channels.filter (s.askedOf kept)).length + (channels.filter (s.startedOf kept)).length) 4294967295
      = (channels.filter (s.askedOf kept)).length + (channels.filter (s.startedOf kept)).length := by omega
  have hleft : decide (4294967295 < (channels.filter (s.askedOf kept)).length + (channels.filter (s.startedOf kept)).length)
      = false := decide_eq_false (by omega)
  rw [hstage, hsweep, hengine, s.entriesRebuilt_engine kept]
  simp only [hlast, hleft, List.nil_append, Bool.or_false]

theorem State.stage3_frame (hg : ∀ n : Channel, kept[n].good) : s.stage3 kept = { s with
    loads := (s.stage3 kept).loads, startup := ⟨true, s.startup.ticks, none⟩
    engine := { s.engine with
      spacing := 255, holdOff := 0
      seq := (channels.filter (s.askedOf kept)).length + (channels.filter (s.startedOf kept)).length
      exhausted := false, runList := channels.filter (s.startedOf kept)
      standbyList := (s.stage3 kept).engine.standbyList } } := by
  rw [← State.stage3_engine hg]
  exact State.eq_of_port (s.stage3_apart kept) (s.stage3_port kept)

/-- A record that stage 3 does not start is the one that the list rebuild left. -/
theorem State.load_stage3_of_unstarted (hg : ∀ n : Channel, kept[n].good) (h : s.startedOf kept n = false) :
    (s.stage3 kept).load n = (s.entriesRebuilt kept).load n := by
  obtain ⟨-, hsweep⟩ := State.essentialSweep_entriesRebuilt (s := s) hg
  have hload : (s.entriesRebuilt kept).essentialSweep.load n = (s.entriesRebuilt kept).load n := by
    rw [hsweep]
    exact State.load_startAll_of_not_mem (by simp [h])
  have hwindow : ((s.entriesRebuilt kept).load n).window = .closed := by
    by_cases hasked : s.askedOf kept n = true
    · rw [State.load_entriesRebuilt_of_asked (hg n) hasked]
      rfl
    · rw [State.load_entriesRebuilt_of_unasked (by simpa using hasked)]
      exact (Load.fresh_rebuilt _ _).window
  rw [s.load_stage3, State.load_sweepWindows_of_closed (by rw [hload]; exact hwindow), hload]

/-- A record that stage 3 starts (R98, R104, R159, R164). -/
theorem State.load_stage3_of_started (hg : ∀ n : Channel, kept[n].good) (h : s.startedOf kept n = true) :
    let r := ((s.entriesRebuilt kept).load n).startsNow ((channels.filter (s.askedOf kept)).length
      + (channels.filter (s.startedOf kept)).idxOf n) s (s.stage3 kept)
    (s.stage3 kept).load n
      = if (channels.filter (s.startedOf kept)).getLast? = some n then r else { r with window := .closed } := by
  obtain ⟨hstartable, hsweep⟩ := State.essentialSweep_entriesRebuilt (s := s) hg
  have hload := hstartable.load_startAll (mem_channels_filter.mpr h)
  have houtputs : (s.stage3 kept).outputs = (s.entriesRebuilt kept).essentialSweep.sweepWindows.outputs := by
    ext i hi
    have hget := s.load_stage3 kept ⟨i, hi⟩
    have houtput : ∀ t : State, t.outputs[i] = (t.load ⟨i, hi⟩).on := fun t => t.outputs_get ⟨i, hi⟩
    rw [houtput, houtput, hget]
  have hsense : (s.entriesRebuilt kept).sense = s.sense := State.sense_of_apart (s.entriesRebuilt_apart kept)
  have hseq : (s.entriesRebuilt kept).engine.seq = (channels.filter (s.askedOf kept)).length := by
    rw [s.entriesRebuilt_engine kept]
  rw [← hsweep, hseq] at hload
  rw [s.load_stage3]
  simpa only [Load.startsNow, hsense, houtputs] using hload

/-- The entry into STANDBY leaves no trace in the record of a start but the request stamp (R98). -/
theorem Load.startsNow_entered (c : ChannelWords) (forced : Bool) (entry stamp : Nat) (s t : State) :
    ((c.record true none).entered forced entry).startsNow stamp s t
      = (c.record true (some entry)).startsNow stamp s t := rfl

/-- The reason of an entry at dwell 0 (R19). -/
theorem Load.reasonAtEntry_record (c : ChannelWords) (forced : Bool) : (c.record true none).reasonAtEntry forced
    = .standby (if forced then .forced else if c.minOff = 0 then .queued else .minOff) := by
  by_cases h : c.minOff = 0
  · simp [Load.reasonAtEntry, h]
  · have hpos : 0 < c.minOff.toNat := Nat.pos_of_ne_zero fun hz => h (BitVec.eq_of_toNat_eq hz)
    rw [Load.reasonAtEntry, if_pos (c := 0 < c.minOff.toNat) hpos, if_neg h]

theorem exec_startupStage3_due (hp : s.powered = true) (hr : s.startup.ready = false) (ht : 25 ≤ s.startup.ticks)
    (hk : s.startup.kept = some kept) : exec .startupStage3 s = .next (s.stage3 kept) := by
  refine (whenPowered_of hp _).trans (congrArg _ ?_)
  have hdue : (!s.startup.ready && decide (stage3Tick ≤ s.startup.ticks)) = true := by simp [hr, stage3Tick, ht]
  simp only [hk]
  exact if_pos hdue

theorem exec_startupStage3_undue (hp : s.powered = true)
    (h : s.startup.ready = true ∨ s.startup.ticks < 25 ∨ s.startup.kept = none) : exec .startupStage3 s = .next s := by
  refine (whenPowered_of hp _).trans (congrArg _ ?_)
  cases hk : s.startup.kept with
  | none => rfl
  | some kept =>
    refine if_neg ?_
    simp only [Bool.and_eq_true, Bool.not_eq_true', decide_eq_true_eq, not_and, hk, reduceCtorEq, or_false] at h ⊢
    intro hr
    exact Nat.not_le.mpr (h.resolve_left (by simp [hr]))

end

/-- Settles O54: the table, then the entries stamped in channel order, then the starts in the order of the stamps. -/
theorem stageThreeRebuildsTableAndLists : Obligations.StageThreeRebuildsTableAndLists := by
  intro s hp
  refine ⟨exec_startupStage3_undue hp, fun kept hr ht hk hg => ?_⟩
  intro asked starts asks started
  have hasked : s.askedOf kept = asked := rfl
  have hstarts : s.startedOf kept = starts := rfl
  refine ⟨s.stage3 kept, exec_startupStage3_due hp hr ht hk, State.stage3_frame hg, s.listsInOrder_stage3 kept, fun n => ?_⟩
  intro r
  have hunstarted : asked n = false → s.startedOf kept n = false := fun hoff => by simp [State.startedOf, hasked, hoff]
  refine ⟨fun hvacant => ?_, fun henrolled hoff => ?_, fun hstart => ?_, fun hon hnot => ?_⟩
  · have hoff : asked n = false := by
      by_contra hon
      have henrolled := State.askedOf_enrolled (s := s) (kept := kept) (n := n) (by simpa [hasked] using hon)
      exact absurd (hvacant.symm.trans henrolled) (by decide)
    rw [State.load_stage3_of_unstarted hg (hunstarted hoff), State.load_entriesRebuilt_of_unasked hoff,
      Load.rebuilt_of_vacant hvacant]
  · have hrequest : askedAtStart kept[n] s.switches[n].pressed = false := hoff
    rw [State.load_stage3_of_unstarted hg (hunstarted hoff), State.load_entriesRebuilt_of_unasked hoff,
      Load.rebuilt_of_enrolled (hg n) henrolled, hrequest]
    simp only [r, hoff, Bool.false_eq_true, if_false]
  · intro q
    have hon : asked n = true := by
      by_contra hoff
      exact absurd hstart (by rw [← hstarts, hunstarted (by simpa using hoff)]; decide)
    have hq : q = (kept[n].record true (some (asks.idxOf n))).startsNow (asks.length + started.idxOf n) s (s.stage3 kept) := by
      simp only [q, r, hon, if_true]
    have hload := State.load_stage3_of_started hg hstart
    rw [State.load_entriesRebuilt_of_asked (hg n) hon, Load.startsNow_entered] at hload
    rw [hq]
    exact hload
  · rw [State.load_stage3_of_unstarted hg hnot, State.load_entriesRebuilt_of_asked (hg n) hon, Load.entered,
      Load.reasonAtEntry_record]
    simp only [r, hon, if_true]
    rfl

end Sys2Proof.Machine
end
